-- ==== Sys2Proof/Word.lean ====
section
/-! DEFINITION. The machine's two widths (rule R7): the 8-bit data word and the 16-bit pair, PC, SP and address. -/

namespace Sys2Proof

/-- The data word, 8 bits (rule R7). -/
abbrev Byte := BitVec 8

/-- A register pair, PC, SP or an address, 16 bits (rule R7). -/
abbrev Word := BitVec 16

end Sys2Proof
end

