-- ==== Sys2Proof/Machine/Bits.lean ====
section
/-! DEFINITION. Bit fields, sign extension and byte order (rules R11, R21, R76). -/

namespace Sys2Proof.Machine

/-- `w[15:8]`. -/
def hiByte (w : Word) : Byte := w.extractLsb' 8 8

/-- `w[7:0]`. -/
def loByte (w : Word) : Byte := w.extractLsb' 0 8

/-- `{hi, lo}`, "concatenation with `a` in the high bits" (rule R11). -/
def joinBytes (hi lo : Byte) : Word := hi ++ lo

/-- `sext_16(b)` of rule R11. -/
def sext16 (b : Byte) : Word := b.signExtend 16

/-- `zext_16(b)` of rule R11. -/
def zext16 (b : Byte) : Word := b.setWidth 16

end Sys2Proof.Machine
end

