-- ==== Sys2Proof/Machine/Memory.lean ====
section
/-! DEFINITION. Backing stores as lists of (index, value) pairs in one canonical form: indexes strictly rising, no entry
equal to the value `d` that an unlisted index reads as. Used at bytes for the five stores of rule R37 and at shades for
the framebuffer of rule R456 (log 14). -/

namespace Sys2Proof.Machine

/-- What a byte of a store that nothing has listed reads as: `0x00` (DESIGN CHOICE, unsafe, log 4: the launch images
BOOT, CART and INIT_RAM have no default in the spec). -/
def Memory.unlisted : Byte := 0

/-- The value at index `n`, `d` where the list has none. -/
def Memory.read {α : Type} (d : α) : List (Nat × α) → Nat → α
  | [], _ => d
  | (k, v) :: rest, n => if k = n then v else Memory.read d rest n

/-- Stores `v` at index `n`, keeping the canonical form: storing `d` removes the entry. -/
def Memory.write {α : Type} [DecidableEq α] (d : α) : List (Nat × α) → Nat → α → List (Nat × α)
  | [], n, v => if v = d then [] else [(n, v)]
  | (k, w) :: rest, n, v =>
    if n < k then (if v = d then (k, w) :: rest else (n, v) :: (k, w) :: rest)
    else if n = k then (if v = d then rest else (n, v) :: rest)
    else (k, w) :: Memory.write d rest n v

/-- The canonical form from index `lo` up to, not including, `size`. -/
def Memory.wfFrom {α : Type} [DecidableEq α] (d : α) (size : Nat) : Nat → List (Nat × α) → Bool
  | _, [] => true
  | lo, (k, v) :: rest =>
    decide (lo ≤ k) && decide (k < size) && decide (v ≠ d) && Memory.wfFrom d size (k + 1) rest

/-- The canonical form of a store of `size` cells. -/
def Memory.wf {α : Type} [DecidableEq α] (d : α) (size : Nat) (l : List (Nat × α)) : Bool :=
  Memory.wfFrom d size 0 l

/-- The store whose cells from `n` on hold the given bytes. -/
def Memory.ofBytesFrom : Nat → List Byte → List Host.Cell
  | _, [] => []
  | n, b :: bs =>
    if b = Memory.unlisted then Memory.ofBytesFrom (n + 1) bs else (n, b) :: Memory.ofBytesFrom (n + 1) bs

/-- The store that holds a byte image from index 0. -/
def Memory.ofBytes (bs : List Byte) : List Host.Cell := Memory.ofBytesFrom 0 bs

/-- Byte `n` of a store. -/
def readByte (store : List Host.Cell) (n : Nat) : Byte := Memory.read Memory.unlisted store n

/-- Stores a byte. -/
def writeByte (store : List Host.Cell) (n : Nat) (v : Byte) : List Host.Cell :=
  Memory.write Memory.unlisted store n v

end Sys2Proof.Machine
end

