-- ==== Sys2Proof/Config.lean ====
section
/-! DEFINITION. What the spec leaves open without a default, as constants with no body: nothing can be proved of
their values, so what is proved holds whatever they are. The parameters that have a default are plain data in
`Machine/Params.lean`. -/

namespace Sys2Proof.Config

/-- The `n`-th draw of rule R27: the H or N flag under `FLAG_MODEL = ZC_DRAW`, "a draw, which no proof can rely on"
(decision D3). A free value (log 5). -/
opaque freeFlag : Nat → Bool

/-- `JOYPAD_VALUE`, "OPEN" in rule R8: the "fixed placeholder value" of rule R71. A free value (log 3). -/
opaque joypadValue : Byte

/-- `LY_MAX`, "OPEN (153 suggested)" in rule R8: the scanline counter's terminal value of rule R461.
A free value (log 3). -/
opaque lyMax : Byte

/-- `SHADE_RGBA`, "OPEN" in rule R8: the packed colour of shade 0 (white) to 3 (black), rule R456.
A free value (log 3). -/
opaque shadeRgba : Nat → BitVec 32

end Sys2Proof.Config
end

