-- ==== Sys2Proof/Syntax.lean ====
section
/-! DEFINITION. The instruction set: one constructor per mnemonic of spec/opcode_table.json (rule R113), with the
operands its bytes carry: `n` an 8-bit immediate, `nn` a 16-bit immediate, `e` the raw byte of a signed displacement
(rule R104). `illegal op` is the row ILLEGAL, which the table has eleven times (rule R365). `prefixCb sub` is the row
PREFIX CB (rule R304): the prefix byte and a sub-opcode still unread as one of the 256 CB rows (log 13).
The constructors that carry operands stand first, then the rest, each group in the table's order: Lean's compiler wants
the low constructor numbers for those with fields. -/

namespace Sys2Proof

/-- An instruction, one constructor per mnemonic of the opcode table. -/
inductive Instr where
  /-- LD BC,nn, 0x01, R230 -/
  | ldBCImm16 (nn : Word)
  /-- LD B,n, 0x06, R201 -/
  | ldBImm (n : Byte)
  /-- LD (nn),SP, 0x08, R231 -/
  | ldAtImm16SP (nn : Word)
  /-- LD C,n, 0x0E, R201 -/
  | ldCImm (n : Byte)
  /-- LD DE,nn, 0x11, R230 -/
  | ldDEImm16 (nn : Word)
  /-- LD D,n, 0x16, R201 -/
  | ldDImm (n : Byte)
  /-- JR e, 0x18, R344 -/
  | jrDisp (e : Byte)
  /-- LD E,n, 0x1E, R201 -/
  | ldEImm (n : Byte)
  /-- JR NZ,e, 0x20, R345 -/
  | jrNZDisp (e : Byte)
  /-- LD HL,nn, 0x21, R230 -/
  | ldHLImm16 (nn : Word)
  /-- LD H,n, 0x26, R201 -/
  | ldHImm (n : Byte)
  /-- JR Z,e, 0x28, R345 -/
  | jrZDisp (e : Byte)
  /-- LD L,n, 0x2E, R201 -/
  | ldLImm (n : Byte)
  /-- JR NC,e, 0x30, R345 -/
  | jrNCDisp (e : Byte)
  /-- LD SP,nn, 0x31, R230 -/
  | ldSPImm16 (nn : Word)
  /-- LD (HL),n, 0x36, R204 -/
  | ldAtHLImm (n : Byte)
  /-- JR C,e, 0x38, R345 -/
  | jrCDisp (e : Byte)
  /-- LD A,n, 0x3E, R201 -/
  | ldAImm (n : Byte)
  /-- JP NZ,nn, 0xC2, R342 -/
  | jpNZImm16 (nn : Word)
  /-- JP nn, 0xC3, R341 -/
  | jpImm16 (nn : Word)
  /-- CALL NZ,nn, 0xC4, R347 -/
  | callNZImm16 (nn : Word)
  /-- ADD A,n, 0xC6, R253 -/
  | addAImm (n : Byte)
  /-- JP Z,nn, 0xCA, R342 -/
  | jpZImm16 (nn : Word)
  /-- PREFIX CB, 0xCB, R304 -/
  | prefixCb (sub : Byte)
  /-- CALL Z,nn, 0xCC, R347 -/
  | callZImm16 (nn : Word)
  /-- CALL nn, 0xCD, R346 -/
  | callImm16 (nn : Word)
  /-- ADC A,n, 0xCE, R255 -/
  | adcAImm (n : Byte)
  /-- JP NC,nn, 0xD2, R342 -/
  | jpNCImm16 (nn : Word)
  /-- the eleven illegal bytes, R365 -/
  | illegal (op : Byte)
  /-- CALL NC,nn, 0xD4, R347 -/
  | callNCImm16 (nn : Word)
  /-- SUB n, 0xD6, R257 -/
  | subImm (n : Byte)
  /-- JP C,nn, 0xDA, R342 -/
  | jpCImm16 (nn : Word)
  /-- CALL C,nn, 0xDC, R347 -/
  | callCImm16 (nn : Word)
  /-- SBC A,n, 0xDE, R259 -/
  | sbcAImm (n : Byte)
  /-- LDH (n),A, 0xE0, R212 -/
  | ldhAtImmA (n : Byte)
  /-- AND n, 0xE6, R261 -/
  | andImm (n : Byte)
  /-- ADD SP,e, 0xE8, R283 -/
  | addSPDisp (e : Byte)
  /-- LD (nn),A, 0xEA, R210 -/
  | ldAtImm16A (nn : Word)
  /-- XOR n, 0xEE, R263 -/
  | xorImm (n : Byte)
  /-- LDH A,(n), 0xF0, R211 -/
  | ldhAAtImm (n : Byte)
  /-- OR n, 0xF6, R265 -/
  | orImm (n : Byte)
  /-- LD HL,SP+e, 0xF8, R233 -/
  | ldHLSPDisp (e : Byte)
  /-- LD A,(nn), 0xFA, R209 -/
  | ldAAtImm16 (nn : Word)
  /-- CP n, 0xFE, R267 -/
  | cpImm (n : Byte)
  /-- NOP, 0x00, R360 -/
  | nop
  /-- LD (BC),A, 0x02, R207 -/
  | ldAtBCA
  /-- INC BC, 0x03, R281 -/
  | incBC
  /-- INC B, 0x04, R268 -/
  | incB
  /-- DEC B, 0x05, R270 -/
  | decB
  /-- RLCA, 0x07, R300 -/
  | rlca
  /-- ADD HL,BC, 0x09, R280 -/
  | addHLBC
  /-- LD A,(BC), 0x0A, R205 -/
  | ldAAtBC
  /-- DEC BC, 0x0B, R282 -/
  | decBC
  /-- INC C, 0x0C, R268 -/
  | incC
  /-- DEC C, 0x0D, R270 -/
  | decC
  /-- RRCA, 0x0F, R301 -/
  | rrca
  /-- STOP, 0x10, R364 -/
  | stop
  /-- LD (DE),A, 0x12, R208 -/
  | ldAtDEA
  /-- INC DE, 0x13, R281 -/
  | incDE
  /-- INC D, 0x14, R268 -/
  | incD
  /-- DEC D, 0x15, R270 -/
  | decD
  /-- RLA, 0x17, R302 -/
  | rla
  /-- ADD HL,DE, 0x19, R280 -/
  | addHLDE
  /-- LD A,(DE), 0x1A, R206 -/
  | ldAAtDE
  /-- DEC DE, 0x1B, R282 -/
  | decDE
  /-- INC E, 0x1C, R268 -/
  | incE
  /-- DEC E, 0x1D, R270 -/
  | decE
  /-- RRA, 0x1F, R303 -/
  | rra
  /-- LD (HL+),A, 0x22, R215 -/
  | ldAtHLIncA
  /-- INC HL, 0x23, R281 -/
  | incHL
  /-- INC H, 0x24, R268 -/
  | incH
  /-- DEC H, 0x25, R270 -/
  | decH
  /-- DAA, 0x27, R272 -/
  | daa
  /-- ADD HL,HL, 0x29, R280 -/
  | addHLHL
  /-- LD A,(HL+), 0x2A, R217 -/
  | ldAAtHLInc
  /-- DEC HL, 0x2B, R282 -/
  | decHL
  /-- INC L, 0x2C, R268 -/
  | incL
  /-- DEC L, 0x2D, R270 -/
  | decL
  /-- CPL, 0x2F, R273 -/
  | cpl
  /-- LD (HL-),A, 0x32, R216 -/
  | ldAtHLDecA
  /-- INC SP, 0x33, R281 -/
  | incSP
  /-- INC (HL), 0x34, R269 -/
  | incAtHL
  /-- DEC (HL), 0x35, R271 -/
  | decAtHL
  /-- SCF, 0x37, R274 -/
  | scf
  /-- ADD HL,SP, 0x39, R280 -/
  | addHLSP
  /-- LD A,(HL-), 0x3A, R218 -/
  | ldAAtHLDec
  /-- DEC SP, 0x3B, R282 -/
  | decSP
  /-- INC A, 0x3C, R268 -/
  | incA
  /-- DEC A, 0x3D, R270 -/
  | decA
  /-- CCF, 0x3F, R275 -/
  | ccf
  /-- LD B,B, 0x40, R200 -/
  | ldBB
  /-- LD B,C, 0x41, R200 -/
  | ldBC
  /-- LD B,D, 0x42, R200 -/
  | ldBD
  /-- LD B,E, 0x43, R200 -/
  | ldBE
  /-- LD B,H, 0x44, R200 -/
  | ldBH
  /-- LD B,L, 0x45, R200 -/
  | ldBL
  /-- LD B,(HL), 0x46, R202 -/
  | ldBAtHL
  /-- LD B,A, 0x47, R200 -/
  | ldBA
  /-- LD C,B, 0x48, R200 -/
  | ldCB
  /-- LD C,C, 0x49, R200 -/
  | ldCC
  /-- LD C,D, 0x4A, R200 -/
  | ldCD
  /-- LD C,E, 0x4B, R200 -/
  | ldCE
  /-- LD C,H, 0x4C, R200 -/
  | ldCH
  /-- LD C,L, 0x4D, R200 -/
  | ldCL
  /-- LD C,(HL), 0x4E, R202 -/
  | ldCAtHL
  /-- LD C,A, 0x4F, R200 -/
  | ldCA
  /-- LD D,B, 0x50, R200 -/
  | ldDB
  /-- LD D,C, 0x51, R200 -/
  | ldDC
  /-- LD D,D, 0x52, R200 -/
  | ldDD
  /-- LD D,E, 0x53, R200 -/
  | ldDE
  /-- LD D,H, 0x54, R200 -/
  | ldDH
  /-- LD D,L, 0x55, R200 -/
  | ldDL
  /-- LD D,(HL), 0x56, R202 -/
  | ldDAtHL
  /-- LD D,A, 0x57, R200 -/
  | ldDA
  /-- LD E,B, 0x58, R200 -/
  | ldEB
  /-- LD E,C, 0x59, R200 -/
  | ldEC
  /-- LD E,D, 0x5A, R200 -/
  | ldED
  /-- LD E,E, 0x5B, R200 -/
  | ldEE
  /-- LD E,H, 0x5C, R200 -/
  | ldEH
  /-- LD E,L, 0x5D, R200 -/
  | ldEL
  /-- LD E,(HL), 0x5E, R202 -/
  | ldEAtHL
  /-- LD E,A, 0x5F, R200 -/
  | ldEA
  /-- LD H,B, 0x60, R200 -/
  | ldHB
  /-- LD H,C, 0x61, R200 -/
  | ldHC
  /-- LD H,D, 0x62, R200 -/
  | ldHD
  /-- LD H,E, 0x63, R200 -/
  | ldHE
  /-- LD H,H, 0x64, R200 -/
  | ldHH
  /-- LD H,L, 0x65, R200 -/
  | ldHL
  /-- LD H,(HL), 0x66, R202 -/
  | ldHAtHL
  /-- LD H,A, 0x67, R200 -/
  | ldHA
  /-- LD L,B, 0x68, R200 -/
  | ldLB
  /-- LD L,C, 0x69, R200 -/
  | ldLC
  /-- LD L,D, 0x6A, R200 -/
  | ldLD
  /-- LD L,E, 0x6B, R200 -/
  | ldLE
  /-- LD L,H, 0x6C, R200 -/
  | ldLH
  /-- LD L,L, 0x6D, R200 -/
  | ldLL
  /-- LD L,(HL), 0x6E, R202 -/
  | ldLAtHL
  /-- LD L,A, 0x6F, R200 -/
  | ldLA
  /-- LD (HL),B, 0x70, R203 -/
  | ldAtHLB
  /-- LD (HL),C, 0x71, R203 -/
  | ldAtHLC
  /-- LD (HL),D, 0x72, R203 -/
  | ldAtHLD
  /-- LD (HL),E, 0x73, R203 -/
  | ldAtHLE
  /-- LD (HL),H, 0x74, R203 -/
  | ldAtHLH
  /-- LD (HL),L, 0x75, R203 -/
  | ldAtHLL
  /-- HALT, 0x76, R361 -/
  | halt
  /-- LD (HL),A, 0x77, R203 -/
  | ldAtHLA
  /-- LD A,B, 0x78, R200 -/
  | ldAB
  /-- LD A,C, 0x79, R200 -/
  | ldAC
  /-- LD A,D, 0x7A, R200 -/
  | ldAD
  /-- LD A,E, 0x7B, R200 -/
  | ldAE
  /-- LD A,H, 0x7C, R200 -/
  | ldAH
  /-- LD A,L, 0x7D, R200 -/
  | ldAL
  /-- LD A,(HL), 0x7E, R202 -/
  | ldAAtHL
  /-- LD A,A, 0x7F, R200 -/
  | ldAA
  /-- ADD A,B, 0x80, R252 -/
  | addAB
  /-- ADD A,C, 0x81, R252 -/
  | addAC
  /-- ADD A,D, 0x82, R252 -/
  | addAD
  /-- ADD A,E, 0x83, R252 -/
  | addAE
  /-- ADD A,H, 0x84, R252 -/
  | addAH
  /-- ADD A,L, 0x85, R252 -/
  | addAL
  /-- ADD A,(HL), 0x86, R252 -/
  | addAAtHL
  /-- ADD A,A, 0x87, R252 -/
  | addAA
  /-- ADC A,B, 0x88, R254 -/
  | adcAB
  /-- ADC A,C, 0x89, R254 -/
  | adcAC
  /-- ADC A,D, 0x8A, R254 -/
  | adcAD
  /-- ADC A,E, 0x8B, R254 -/
  | adcAE
  /-- ADC A,H, 0x8C, R254 -/
  | adcAH
  /-- ADC A,L, 0x8D, R254 -/
  | adcAL
  /-- ADC A,(HL), 0x8E, R254 -/
  | adcAAtHL
  /-- ADC A,A, 0x8F, R254 -/
  | adcAA
  /-- SUB B, 0x90, R256 -/
  | subB
  /-- SUB C, 0x91, R256 -/
  | subC
  /-- SUB D, 0x92, R256 -/
  | subD
  /-- SUB E, 0x93, R256 -/
  | subE
  /-- SUB H, 0x94, R256 -/
  | subH
  /-- SUB L, 0x95, R256 -/
  | subL
  /-- SUB (HL), 0x96, R256 -/
  | subAtHL
  /-- SUB A, 0x97, R256 -/
  | subA
  /-- SBC A,B, 0x98, R258 -/
  | sbcAB
  /-- SBC A,C, 0x99, R258 -/
  | sbcAC
  /-- SBC A,D, 0x9A, R258 -/
  | sbcAD
  /-- SBC A,E, 0x9B, R258 -/
  | sbcAE
  /-- SBC A,H, 0x9C, R258 -/
  | sbcAH
  /-- SBC A,L, 0x9D, R258 -/
  | sbcAL
  /-- SBC A,(HL), 0x9E, R258 -/
  | sbcAAtHL
  /-- SBC A,A, 0x9F, R258 -/
  | sbcAA
  /-- AND B, 0xA0, R260 -/
  | andB
  /-- AND C, 0xA1, R260 -/
  | andC
  /-- AND D, 0xA2, R260 -/
  | andD
  /-- AND E, 0xA3, R260 -/
  | andE
  /-- AND H, 0xA4, R260 -/
  | andH
  /-- AND L, 0xA5, R260 -/
  | andL
  /-- AND (HL), 0xA6, R260 -/
  | andAtHL
  /-- AND A, 0xA7, R260 -/
  | andA
  /-- XOR B, 0xA8, R262 -/
  | xorB
  /-- XOR C, 0xA9, R262 -/
  | xorC
  /-- XOR D, 0xAA, R262 -/
  | xorD
  /-- XOR E, 0xAB, R262 -/
  | xorE
  /-- XOR H, 0xAC, R262 -/
  | xorH
  /-- XOR L, 0xAD, R262 -/
  | xorL
  /-- XOR (HL), 0xAE, R262 -/
  | xorAtHL
  /-- XOR A, 0xAF, R262 -/
  | xorA
  /-- OR B, 0xB0, R264 -/
  | orB
  /-- OR C, 0xB1, R264 -/
  | orC
  /-- OR D, 0xB2, R264 -/
  | orD
  /-- OR E, 0xB3, R264 -/
  | orE
  /-- OR H, 0xB4, R264 -/
  | orH
  /-- OR L, 0xB5, R264 -/
  | orL
  /-- OR (HL), 0xB6, R264 -/
  | orAtHL
  /-- OR A, 0xB7, R264 -/
  | orA
  /-- CP B, 0xB8, R266 -/
  | cpB
  /-- CP C, 0xB9, R266 -/
  | cpC
  /-- CP D, 0xBA, R266 -/
  | cpD
  /-- CP E, 0xBB, R266 -/
  | cpE
  /-- CP H, 0xBC, R266 -/
  | cpH
  /-- CP L, 0xBD, R266 -/
  | cpL
  /-- CP (HL), 0xBE, R266 -/
  | cpAtHL
  /-- CP A, 0xBF, R266 -/
  | cpA
  /-- RET NZ, 0xC0, R349 -/
  | retNZ
  /-- POP BC, 0xC1, R235 -/
  | popBC
  /-- PUSH BC, 0xC5, R234 -/
  | pushBC
  /-- RST 0x00, 0xC7, R351 -/
  | rst00
  /-- RET Z, 0xC8, R349 -/
  | retZ
  /-- RET, 0xC9, R348 -/
  | ret
  /-- RST 0x08, 0xCF, R351 -/
  | rst08
  /-- RET NC, 0xD0, R349 -/
  | retNC
  /-- POP DE, 0xD1, R235 -/
  | popDE
  /-- PUSH DE, 0xD5, R234 -/
  | pushDE
  /-- RST 0x10, 0xD7, R351 -/
  | rst10
  /-- RET C, 0xD8, R349 -/
  | retC
  /-- RETI, 0xD9, R350 -/
  | reti
  /-- RST 0x18, 0xDF, R351 -/
  | rst18
  /-- POP HL, 0xE1, R235 -/
  | popHL
  /-- LD (C),A, 0xE2, R214 -/
  | ldAtCA
  /-- PUSH HL, 0xE5, R234 -/
  | pushHL
  /-- RST 0x20, 0xE7, R351 -/
  | rst20
  /-- JP HL, 0xE9, R343 -/
  | jpHL
  /-- RST 0x28, 0xEF, R351 -/
  | rst28
  /-- POP AF, 0xF1, R236 -/
  | popAF
  /-- LD A,(C), 0xF2, R213 -/
  | ldAAtC
  /-- DI, 0xF3, R362 -/
  | di
  /-- PUSH AF, 0xF5, R234 -/
  | pushAF
  /-- RST 0x30, 0xF7, R351 -/
  | rst30
  /-- LD SP,HL, 0xF9, R232 -/
  | ldSPHL
  /-- EI, 0xFB, R363 -/
  | ei
  /-- RST 0x38, 0xFF, R351 -/
  | rst38
  /-- RLC B, 0xCB00, R305 -/
  | rlcB
  /-- RLC C, 0xCB01, R305 -/
  | rlcC
  /-- RLC D, 0xCB02, R305 -/
  | rlcD
  /-- RLC E, 0xCB03, R305 -/
  | rlcE
  /-- RLC H, 0xCB04, R305 -/
  | rlcH
  /-- RLC L, 0xCB05, R305 -/
  | rlcL
  /-- RLC (HL), 0xCB06, R305 -/
  | rlcAtHL
  /-- RLC A, 0xCB07, R305 -/
  | rlcA
  /-- RRC B, 0xCB08, R306 -/
  | rrcB
  /-- RRC C, 0xCB09, R306 -/
  | rrcC
  /-- RRC D, 0xCB0A, R306 -/
  | rrcD
  /-- RRC E, 0xCB0B, R306 -/
  | rrcE
  /-- RRC H, 0xCB0C, R306 -/
  | rrcH
  /-- RRC L, 0xCB0D, R306 -/
  | rrcL
  /-- RRC (HL), 0xCB0E, R306 -/
  | rrcAtHL
  /-- RRC A, 0xCB0F, R306 -/
  | rrcA
  /-- RL B, 0xCB10, R307 -/
  | rlB
  /-- RL C, 0xCB11, R307 -/
  | rlC
  /-- RL D, 0xCB12, R307 -/
  | rlD
  /-- RL E, 0xCB13, R307 -/
  | rlE
  /-- RL H, 0xCB14, R307 -/
  | rlH
  /-- RL L, 0xCB15, R307 -/
  | rlL
  /-- RL (HL), 0xCB16, R307 -/
  | rlAtHL
  /-- RL A, 0xCB17, R307 -/
  | rlA
  /-- RR B, 0xCB18, R308 -/
  | rrB
  /-- RR C, 0xCB19, R308 -/
  | rrC
  /-- RR D, 0xCB1A, R308 -/
  | rrD
  /-- RR E, 0xCB1B, R308 -/
  | rrE
  /-- RR H, 0xCB1C, R308 -/
  | rrH
  /-- RR L, 0xCB1D, R308 -/
  | rrL
  /-- RR (HL), 0xCB1E, R308 -/
  | rrAtHL
  /-- RR A, 0xCB1F, R308 -/
  | rrA
  /-- SLA B, 0xCB20, R309 -/
  | slaB
  /-- SLA C, 0xCB21, R309 -/
  | slaC
  /-- SLA D, 0xCB22, R309 -/
  | slaD
  /-- SLA E, 0xCB23, R309 -/
  | slaE
  /-- SLA H, 0xCB24, R309 -/
  | slaH
  /-- SLA L, 0xCB25, R309 -/
  | slaL
  /-- SLA (HL), 0xCB26, R309 -/
  | slaAtHL
  /-- SLA A, 0xCB27, R309 -/
  | slaA
  /-- SRA B, 0xCB28, R310 -/
  | sraB
  /-- SRA C, 0xCB29, R310 -/
  | sraC
  /-- SRA D, 0xCB2A, R310 -/
  | sraD
  /-- SRA E, 0xCB2B, R310 -/
  | sraE
  /-- SRA H, 0xCB2C, R310 -/
  | sraH
  /-- SRA L, 0xCB2D, R310 -/
  | sraL
  /-- SRA (HL), 0xCB2E, R310 -/
  | sraAtHL
  /-- SRA A, 0xCB2F, R310 -/
  | sraA
  /-- SWAP B, 0xCB30, R311 -/
  | swapB
  /-- SWAP C, 0xCB31, R311 -/
  | swapC
  /-- SWAP D, 0xCB32, R311 -/
  | swapD
  /-- SWAP E, 0xCB33, R311 -/
  | swapE
  /-- SWAP H, 0xCB34, R311 -/
  | swapH
  /-- SWAP L, 0xCB35, R311 -/
  | swapL
  /-- SWAP (HL), 0xCB36, R311 -/
  | swapAtHL
  /-- SWAP A, 0xCB37, R311 -/
  | swapA
  /-- SRL B, 0xCB38, R312 -/
  | srlB
  /-- SRL C, 0xCB39, R312 -/
  | srlC
  /-- SRL D, 0xCB3A, R312 -/
  | srlD
  /-- SRL E, 0xCB3B, R312 -/
  | srlE
  /-- SRL H, 0xCB3C, R312 -/
  | srlH
  /-- SRL L, 0xCB3D, R312 -/
  | srlL
  /-- SRL (HL), 0xCB3E, R312 -/
  | srlAtHL
  /-- SRL A, 0xCB3F, R312 -/
  | srlA
  /-- BIT 0,B, 0xCB40, R313 -/
  | bit0B
  /-- BIT 0,C, 0xCB41, R313 -/
  | bit0C
  /-- BIT 0,D, 0xCB42, R313 -/
  | bit0D
  /-- BIT 0,E, 0xCB43, R313 -/
  | bit0E
  /-- BIT 0,H, 0xCB44, R313 -/
  | bit0H
  /-- BIT 0,L, 0xCB45, R313 -/
  | bit0L
  /-- BIT 0,(HL), 0xCB46, R313 -/
  | bit0AtHL
  /-- BIT 0,A, 0xCB47, R313 -/
  | bit0A
  /-- BIT 1,B, 0xCB48, R313 -/
  | bit1B
  /-- BIT 1,C, 0xCB49, R313 -/
  | bit1C
  /-- BIT 1,D, 0xCB4A, R313 -/
  | bit1D
  /-- BIT 1,E, 0xCB4B, R313 -/
  | bit1E
  /-- BIT 1,H, 0xCB4C, R313 -/
  | bit1H
  /-- BIT 1,L, 0xCB4D, R313 -/
  | bit1L
  /-- BIT 1,(HL), 0xCB4E, R313 -/
  | bit1AtHL
  /-- BIT 1,A, 0xCB4F, R313 -/
  | bit1A
  /-- BIT 2,B, 0xCB50, R313 -/
  | bit2B
  /-- BIT 2,C, 0xCB51, R313 -/
  | bit2C
  /-- BIT 2,D, 0xCB52, R313 -/
  | bit2D
  /-- BIT 2,E, 0xCB53, R313 -/
  | bit2E
  /-- BIT 2,H, 0xCB54, R313 -/
  | bit2H
  /-- BIT 2,L, 0xCB55, R313 -/
  | bit2L
  /-- BIT 2,(HL), 0xCB56, R313 -/
  | bit2AtHL
  /-- BIT 2,A, 0xCB57, R313 -/
  | bit2A
  /-- BIT 3,B, 0xCB58, R313 -/
  | bit3B
  /-- BIT 3,C, 0xCB59, R313 -/
  | bit3C
  /-- BIT 3,D, 0xCB5A, R313 -/
  | bit3D
  /-- BIT 3,E, 0xCB5B, R313 -/
  | bit3E
  /-- BIT 3,H, 0xCB5C, R313 -/
  | bit3H
  /-- BIT 3,L, 0xCB5D, R313 -/
  | bit3L
  /-- BIT 3,(HL), 0xCB5E, R313 -/
  | bit3AtHL
  /-- BIT 3,A, 0xCB5F, R313 -/
  | bit3A
  /-- BIT 4,B, 0xCB60, R313 -/
  | bit4B
  /-- BIT 4,C, 0xCB61, R313 -/
  | bit4C
  /-- BIT 4,D, 0xCB62, R313 -/
  | bit4D
  /-- BIT 4,E, 0xCB63, R313 -/
  | bit4E
  /-- BIT 4,H, 0xCB64, R313 -/
  | bit4H
  /-- BIT 4,L, 0xCB65, R313 -/
  | bit4L
  /-- BIT 4,(HL), 0xCB66, R313 -/
  | bit4AtHL
  /-- BIT 4,A, 0xCB67, R313 -/
  | bit4A
  /-- BIT 5,B, 0xCB68, R313 -/
  | bit5B
  /-- BIT 5,C, 0xCB69, R313 -/
  | bit5C
  /-- BIT 5,D, 0xCB6A, R313 -/
  | bit5D
  /-- BIT 5,E, 0xCB6B, R313 -/
  | bit5E
  /-- BIT 5,H, 0xCB6C, R313 -/
  | bit5H
  /-- BIT 5,L, 0xCB6D, R313 -/
  | bit5L
  /-- BIT 5,(HL), 0xCB6E, R313 -/
  | bit5AtHL
  /-- BIT 5,A, 0xCB6F, R313 -/
  | bit5A
  /-- BIT 6,B, 0xCB70, R313 -/
  | bit6B
  /-- BIT 6,C, 0xCB71, R313 -/
  | bit6C
  /-- BIT 6,D, 0xCB72, R313 -/
  | bit6D
  /-- BIT 6,E, 0xCB73, R313 -/
  | bit6E
  /-- BIT 6,H, 0xCB74, R313 -/
  | bit6H
  /-- BIT 6,L, 0xCB75, R313 -/
  | bit6L
  /-- BIT 6,(HL), 0xCB76, R313 -/
  | bit6AtHL
  /-- BIT 6,A, 0xCB77, R313 -/
  | bit6A
  /-- BIT 7,B, 0xCB78, R313 -/
  | bit7B
  /-- BIT 7,C, 0xCB79, R313 -/
  | bit7C
  /-- BIT 7,D, 0xCB7A, R313 -/
  | bit7D
  /-- BIT 7,E, 0xCB7B, R313 -/
  | bit7E
  /-- BIT 7,H, 0xCB7C, R313 -/
  | bit7H
  /-- BIT 7,L, 0xCB7D, R313 -/
  | bit7L
  /-- BIT 7,(HL), 0xCB7E, R313 -/
  | bit7AtHL
  /-- BIT 7,A, 0xCB7F, R313 -/
  | bit7A
  /-- RES 0,B, 0xCB80, R314 -/
  | res0B
  /-- RES 0,C, 0xCB81, R314 -/
  | res0C
  /-- RES 0,D, 0xCB82, R314 -/
  | res0D
  /-- RES 0,E, 0xCB83, R314 -/
  | res0E
  /-- RES 0,H, 0xCB84, R314 -/
  | res0H
  /-- RES 0,L, 0xCB85, R314 -/
  | res0L
  /-- RES 0,(HL), 0xCB86, R314 -/
  | res0AtHL
  /-- RES 0,A, 0xCB87, R314 -/
  | res0A
  /-- RES 1,B, 0xCB88, R314 -/
  | res1B
  /-- RES 1,C, 0xCB89, R314 -/
  | res1C
  /-- RES 1,D, 0xCB8A, R314 -/
  | res1D
  /-- RES 1,E, 0xCB8B, R314 -/
  | res1E
  /-- RES 1,H, 0xCB8C, R314 -/
  | res1H
  /-- RES 1,L, 0xCB8D, R314 -/
  | res1L
  /-- RES 1,(HL), 0xCB8E, R314 -/
  | res1AtHL
  /-- RES 1,A, 0xCB8F, R314 -/
  | res1A
  /-- RES 2,B, 0xCB90, R314 -/
  | res2B
  /-- RES 2,C, 0xCB91, R314 -/
  | res2C
  /-- RES 2,D, 0xCB92, R314 -/
  | res2D
  /-- RES 2,E, 0xCB93, R314 -/
  | res2E
  /-- RES 2,H, 0xCB94, R314 -/
  | res2H
  /-- RES 2,L, 0xCB95, R314 -/
  | res2L
  /-- RES 2,(HL), 0xCB96, R314 -/
  | res2AtHL
  /-- RES 2,A, 0xCB97, R314 -/
  | res2A
  /-- RES 3,B, 0xCB98, R314 -/
  | res3B
  /-- RES 3,C, 0xCB99, R314 -/
  | res3C
  /-- RES 3,D, 0xCB9A, R314 -/
  | res3D
  /-- RES 3,E, 0xCB9B, R314 -/
  | res3E
  /-- RES 3,H, 0xCB9C, R314 -/
  | res3H
  /-- RES 3,L, 0xCB9D, R314 -/
  | res3L
  /-- RES 3,(HL), 0xCB9E, R314 -/
  | res3AtHL
  /-- RES 3,A, 0xCB9F, R314 -/
  | res3A
  /-- RES 4,B, 0xCBA0, R314 -/
  | res4B
  /-- RES 4,C, 0xCBA1, R314 -/
  | res4C
  /-- RES 4,D, 0xCBA2, R314 -/
  | res4D
  /-- RES 4,E, 0xCBA3, R314 -/
  | res4E
  /-- RES 4,H, 0xCBA4, R314 -/
  | res4H
  /-- RES 4,L, 0xCBA5, R314 -/
  | res4L
  /-- RES 4,(HL), 0xCBA6, R314 -/
  | res4AtHL
  /-- RES 4,A, 0xCBA7, R314 -/
  | res4A
  /-- RES 5,B, 0xCBA8, R314 -/
  | res5B
  /-- RES 5,C, 0xCBA9, R314 -/
  | res5C
  /-- RES 5,D, 0xCBAA, R314 -/
  | res5D
  /-- RES 5,E, 0xCBAB, R314 -/
  | res5E
  /-- RES 5,H, 0xCBAC, R314 -/
  | res5H
  /-- RES 5,L, 0xCBAD, R314 -/
  | res5L
  /-- RES 5,(HL), 0xCBAE, R314 -/
  | res5AtHL
  /-- RES 5,A, 0xCBAF, R314 -/
  | res5A
  /-- RES 6,B, 0xCBB0, R314 -/
  | res6B
  /-- RES 6,C, 0xCBB1, R314 -/
  | res6C
  /-- RES 6,D, 0xCBB2, R314 -/
  | res6D
  /-- RES 6,E, 0xCBB3, R314 -/
  | res6E
  /-- RES 6,H, 0xCBB4, R314 -/
  | res6H
  /-- RES 6,L, 0xCBB5, R314 -/
  | res6L
  /-- RES 6,(HL), 0xCBB6, R314 -/
  | res6AtHL
  /-- RES 6,A, 0xCBB7, R314 -/
  | res6A
  /-- RES 7,B, 0xCBB8, R314 -/
  | res7B
  /-- RES 7,C, 0xCBB9, R314 -/
  | res7C
  /-- RES 7,D, 0xCBBA, R314 -/
  | res7D
  /-- RES 7,E, 0xCBBB, R314 -/
  | res7E
  /-- RES 7,H, 0xCBBC, R314 -/
  | res7H
  /-- RES 7,L, 0xCBBD, R314 -/
  | res7L
  /-- RES 7,(HL), 0xCBBE, R314 -/
  | res7AtHL
  /-- RES 7,A, 0xCBBF, R314 -/
  | res7A
  /-- SET 0,B, 0xCBC0, R315 -/
  | set0B
  /-- SET 0,C, 0xCBC1, R315 -/
  | set0C
  /-- SET 0,D, 0xCBC2, R315 -/
  | set0D
  /-- SET 0,E, 0xCBC3, R315 -/
  | set0E
  /-- SET 0,H, 0xCBC4, R315 -/
  | set0H
  /-- SET 0,L, 0xCBC5, R315 -/
  | set0L
  /-- SET 0,(HL), 0xCBC6, R315 -/
  | set0AtHL
  /-- SET 0,A, 0xCBC7, R315 -/
  | set0A
  /-- SET 1,B, 0xCBC8, R315 -/
  | set1B
  /-- SET 1,C, 0xCBC9, R315 -/
  | set1C
  /-- SET 1,D, 0xCBCA, R315 -/
  | set1D
  /-- SET 1,E, 0xCBCB, R315 -/
  | set1E
  /-- SET 1,H, 0xCBCC, R315 -/
  | set1H
  /-- SET 1,L, 0xCBCD, R315 -/
  | set1L
  /-- SET 1,(HL), 0xCBCE, R315 -/
  | set1AtHL
  /-- SET 1,A, 0xCBCF, R315 -/
  | set1A
  /-- SET 2,B, 0xCBD0, R315 -/
  | set2B
  /-- SET 2,C, 0xCBD1, R315 -/
  | set2C
  /-- SET 2,D, 0xCBD2, R315 -/
  | set2D
  /-- SET 2,E, 0xCBD3, R315 -/
  | set2E
  /-- SET 2,H, 0xCBD4, R315 -/
  | set2H
  /-- SET 2,L, 0xCBD5, R315 -/
  | set2L
  /-- SET 2,(HL), 0xCBD6, R315 -/
  | set2AtHL
  /-- SET 2,A, 0xCBD7, R315 -/
  | set2A
  /-- SET 3,B, 0xCBD8, R315 -/
  | set3B
  /-- SET 3,C, 0xCBD9, R315 -/
  | set3C
  /-- SET 3,D, 0xCBDA, R315 -/
  | set3D
  /-- SET 3,E, 0xCBDB, R315 -/
  | set3E
  /-- SET 3,H, 0xCBDC, R315 -/
  | set3H
  /-- SET 3,L, 0xCBDD, R315 -/
  | set3L
  /-- SET 3,(HL), 0xCBDE, R315 -/
  | set3AtHL
  /-- SET 3,A, 0xCBDF, R315 -/
  | set3A
  /-- SET 4,B, 0xCBE0, R315 -/
  | set4B
  /-- SET 4,C, 0xCBE1, R315 -/
  | set4C
  /-- SET 4,D, 0xCBE2, R315 -/
  | set4D
  /-- SET 4,E, 0xCBE3, R315 -/
  | set4E
  /-- SET 4,H, 0xCBE4, R315 -/
  | set4H
  /-- SET 4,L, 0xCBE5, R315 -/
  | set4L
  /-- SET 4,(HL), 0xCBE6, R315 -/
  | set4AtHL
  /-- SET 4,A, 0xCBE7, R315 -/
  | set4A
  /-- SET 5,B, 0xCBE8, R315 -/
  | set5B
  /-- SET 5,C, 0xCBE9, R315 -/
  | set5C
  /-- SET 5,D, 0xCBEA, R315 -/
  | set5D
  /-- SET 5,E, 0xCBEB, R315 -/
  | set5E
  /-- SET 5,H, 0xCBEC, R315 -/
  | set5H
  /-- SET 5,L, 0xCBED, R315 -/
  | set5L
  /-- SET 5,(HL), 0xCBEE, R315 -/
  | set5AtHL
  /-- SET 5,A, 0xCBEF, R315 -/
  | set5A
  /-- SET 6,B, 0xCBF0, R315 -/
  | set6B
  /-- SET 6,C, 0xCBF1, R315 -/
  | set6C
  /-- SET 6,D, 0xCBF2, R315 -/
  | set6D
  /-- SET 6,E, 0xCBF3, R315 -/
  | set6E
  /-- SET 6,H, 0xCBF4, R315 -/
  | set6H
  /-- SET 6,L, 0xCBF5, R315 -/
  | set6L
  /-- SET 6,(HL), 0xCBF6, R315 -/
  | set6AtHL
  /-- SET 6,A, 0xCBF7, R315 -/
  | set6A
  /-- SET 7,B, 0xCBF8, R315 -/
  | set7B
  /-- SET 7,C, 0xCBF9, R315 -/
  | set7C
  /-- SET 7,D, 0xCBFA, R315 -/
  | set7D
  /-- SET 7,E, 0xCBFB, R315 -/
  | set7E
  /-- SET 7,H, 0xCBFC, R315 -/
  | set7H
  /-- SET 7,L, 0xCBFD, R315 -/
  | set7L
  /-- SET 7,(HL), 0xCBFE, R315 -/
  | set7AtHL
  /-- SET 7,A, 0xCBFF, R315 -/
  | set7A
  deriving DecidableEq, Repr

end Sys2Proof
end

