-- ==== Sys2Proof/WellFormed.lean ====
section
/-! DEFINITION. Which terms of `Instr` are instructions as bytes spell them. -/

namespace Sys2Proof

/-- The eleven bytes of rule R9 and rule R365 that have no instruction. -/
def illegalBytes : List Byte :=
  [0xD3, 0xDB, 0xDD, 0xE3, 0xE4, 0xEB, 0xEC, 0xED, 0xF4, 0xFC, 0xFD]

/-- `illegal op` holds one of the eleven illegal bytes (rule R365); the bare prefix is no instruction, since "the
prefix `0xCB` selects a two-byte instruction" and each of the 256 sub-opcodes has a constructor of its own (rule R304,
log 13); every other term is well formed, whatever its operands. -/
def Instr.wellFormed : Instr → Bool
  | .illegal op => illegalBytes.contains op
  | .prefixCb _ => false
  | _ => true

/-- The well-formed instructions, as a proposition. -/
abbrev Instr.WellFormed (i : Instr) : Prop := i.wellFormed = true

end Sys2Proof
end

