-- ==== Sys2Proof/Decode.lean ====
section
/-! DEFINITION. From bytes to instructions and back (rules R100 to R108, R113). The decoder's tables are the two maps of
rule R108, row by row: the row is the high nibble, the place in the row the low nibble. -/

namespace Sys2Proof

open Sys2Proof.Machine

/-- Why bytes are no instruction: the byte the decoder needed and did not have. Every byte value decodes: the eleven
illegal bytes to `Instr.illegal` (rule R365), every CB sub-opcode to its row (rule R108). -/
inductive DecodeReject where
  /-- There is no byte to read as an opcode. -/
  | noOpcode
  /-- The prefix `0xCB` is the last byte: there is no sub-opcode (rule R304). -/
  | noSubOpcode
  /-- An immediate or displacement byte is missing (rule R104). -/
  | noOperand
  deriving DecidableEq, Repr

/-- Row 0x of the base map of rule R108; `n` is byte 1, `nn` is bytes 1 and 2. -/
def baseRow0 (n : Byte) (nn : Word) : List Instr :=
  [
    .nop, .ldBCImm16 nn, .ldAtBCA, .incBC, .incB, .decB, .ldBImm n, .rlca, .ldAtImm16SP nn, .addHLBC, .ldAAtBC,
    .decBC, .incC, .decC, .ldCImm n, .rrca ]

/-- Row 1x of the base map of rule R108; `n` is byte 1, `nn` is bytes 1 and 2. -/
def baseRow1 (n : Byte) (nn : Word) : List Instr :=
  [
    .stop, .ldDEImm16 nn, .ldAtDEA, .incDE, .incD, .decD, .ldDImm n, .rla, .jrDisp n, .addHLDE, .ldAAtDE, .decDE,
    .incE, .decE, .ldEImm n, .rra ]

/-- Row 2x of the base map of rule R108; `n` is byte 1, `nn` is bytes 1 and 2. -/
def baseRow2 (n : Byte) (nn : Word) : List Instr :=
  [
    .jrNZDisp n, .ldHLImm16 nn, .ldAtHLIncA, .incHL, .incH, .decH, .ldHImm n, .daa, .jrZDisp n, .addHLHL,
    .ldAAtHLInc, .decHL, .incL, .decL, .ldLImm n, .cpl ]

/-- Row 3x of the base map of rule R108; `n` is byte 1, `nn` is bytes 1 and 2. -/
def baseRow3 (n : Byte) (nn : Word) : List Instr :=
  [
    .jrNCDisp n, .ldSPImm16 nn, .ldAtHLDecA, .incSP, .incAtHL, .decAtHL, .ldAtHLImm n, .scf, .jrCDisp n, .addHLSP,
    .ldAAtHLDec, .decSP, .incA, .decA, .ldAImm n, .ccf ]

/-- Row 4x of the base map of rule R108; `n` is byte 1, `nn` is bytes 1 and 2. -/
def baseRow4 (_ : Byte) (_ : Word) : List Instr :=
  [
    .ldBB, .ldBC, .ldBD, .ldBE, .ldBH, .ldBL, .ldBAtHL, .ldBA, .ldCB, .ldCC, .ldCD, .ldCE, .ldCH, .ldCL, .ldCAtHL,
    .ldCA ]

/-- Row 5x of the base map of rule R108; `n` is byte 1, `nn` is bytes 1 and 2. -/
def baseRow5 (_ : Byte) (_ : Word) : List Instr :=
  [
    .ldDB, .ldDC, .ldDD, .ldDE, .ldDH, .ldDL, .ldDAtHL, .ldDA, .ldEB, .ldEC, .ldED, .ldEE, .ldEH, .ldEL, .ldEAtHL,
    .ldEA ]

/-- Row 6x of the base map of rule R108; `n` is byte 1, `nn` is bytes 1 and 2. -/
def baseRow6 (_ : Byte) (_ : Word) : List Instr :=
  [
    .ldHB, .ldHC, .ldHD, .ldHE, .ldHH, .ldHL, .ldHAtHL, .ldHA, .ldLB, .ldLC, .ldLD, .ldLE, .ldLH, .ldLL, .ldLAtHL,
    .ldLA ]

/-- Row 7x of the base map of rule R108; `n` is byte 1, `nn` is bytes 1 and 2. -/
def baseRow7 (_ : Byte) (_ : Word) : List Instr :=
  [
    .ldAtHLB, .ldAtHLC, .ldAtHLD, .ldAtHLE, .ldAtHLH, .ldAtHLL, .halt, .ldAtHLA, .ldAB, .ldAC, .ldAD, .ldAE, .ldAH,
    .ldAL, .ldAAtHL, .ldAA ]

/-- Row 8x of the base map of rule R108; `n` is byte 1, `nn` is bytes 1 and 2. -/
def baseRow8 (_ : Byte) (_ : Word) : List Instr :=
  [
    .addAB, .addAC, .addAD, .addAE, .addAH, .addAL, .addAAtHL, .addAA, .adcAB, .adcAC, .adcAD, .adcAE, .adcAH,
    .adcAL, .adcAAtHL, .adcAA ]

/-- Row 9x of the base map of rule R108; `n` is byte 1, `nn` is bytes 1 and 2. -/
def baseRow9 (_ : Byte) (_ : Word) : List Instr :=
  [
    .subB, .subC, .subD, .subE, .subH, .subL, .subAtHL, .subA, .sbcAB, .sbcAC, .sbcAD, .sbcAE, .sbcAH, .sbcAL,
    .sbcAAtHL, .sbcAA ]

/-- Row Ax of the base map of rule R108; `n` is byte 1, `nn` is bytes 1 and 2. -/
def baseRowA (_ : Byte) (_ : Word) : List Instr :=
  [
    .andB, .andC, .andD, .andE, .andH, .andL, .andAtHL, .andA, .xorB, .xorC, .xorD, .xorE, .xorH, .xorL, .xorAtHL,
    .xorA ]

/-- Row Bx of the base map of rule R108; `n` is byte 1, `nn` is bytes 1 and 2. -/
def baseRowB (_ : Byte) (_ : Word) : List Instr :=
  [
    .orB, .orC, .orD, .orE, .orH, .orL, .orAtHL, .orA, .cpB, .cpC, .cpD, .cpE, .cpH, .cpL, .cpAtHL, .cpA ]

/-- Row Cx of the base map of rule R108; `n` is byte 1, `nn` is bytes 1 and 2. -/
def baseRowC (n : Byte) (nn : Word) : List Instr :=
  [
    .retNZ, .popBC, .jpNZImm16 nn, .jpImm16 nn, .callNZImm16 nn, .pushBC, .addAImm n, .rst00, .retZ, .ret,
    .jpZImm16 nn, .prefixCb n, .callZImm16 nn, .callImm16 nn, .adcAImm n, .rst08 ]

/-- Row Dx of the base map of rule R108; `n` is byte 1, `nn` is bytes 1 and 2. -/
def baseRowD (n : Byte) (nn : Word) : List Instr :=
  [
    .retNC, .popDE, .jpNCImm16 nn, .illegal 0xD3, .callNCImm16 nn, .pushDE, .subImm n, .rst10, .retC, .reti,
    .jpCImm16 nn, .illegal 0xDB, .callCImm16 nn, .illegal 0xDD, .sbcAImm n, .rst18 ]

/-- Row Ex of the base map of rule R108; `n` is byte 1, `nn` is bytes 1 and 2. -/
def baseRowE (n : Byte) (nn : Word) : List Instr :=
  [
    .ldhAtImmA n, .popHL, .ldAtCA, .illegal 0xE3, .illegal 0xE4, .pushHL, .andImm n, .rst20, .addSPDisp n, .jpHL,
    .ldAtImm16A nn, .illegal 0xEB, .illegal 0xEC, .illegal 0xED, .xorImm n, .rst28 ]

/-- Row Fx of the base map of rule R108; `n` is byte 1, `nn` is bytes 1 and 2. -/
def baseRowF (n : Byte) (nn : Word) : List Instr :=
  [
    .ldhAAtImm n, .popAF, .ldAAtC, .di, .illegal 0xF4, .pushAF, .orImm n, .rst30, .ldHLSPDisp n, .ldSPHL,
    .ldAAtImm16 nn, .ei, .illegal 0xFC, .illegal 0xFD, .cpImm n, .rst38 ]

/-- The base map of rule R108: the instruction of opcode `op` with bytes 1 and 2. Its entry for `0xCB` is the prefix, which
`decode` never asks for. -/
def baseInstr (op b1 b2 : Byte) : Instr :=
  let n := b1
  let nn := joinBytes b2 b1
  let row :=
    match op.toNat / 16 with
    | 0 => baseRow0 n nn
    | 1 => baseRow1 n nn
    | 2 => baseRow2 n nn
    | 3 => baseRow3 n nn
    | 4 => baseRow4 n nn
    | 5 => baseRow5 n nn
    | 6 => baseRow6 n nn
    | 7 => baseRow7 n nn
    | 8 => baseRow8 n nn
    | 9 => baseRow9 n nn
    | 10 => baseRowA n nn
    | 11 => baseRowB n nn
    | 12 => baseRowC n nn
    | 13 => baseRowD n nn
    | 14 => baseRowE n nn
    | _ => baseRowF n nn
  row.getD (op.toNat % 16) .nop

/-- Row 0x of the CB map of rule R108. -/
def cbRow0 : List Instr :=
  [
    .rlcB, .rlcC, .rlcD, .rlcE, .rlcH, .rlcL, .rlcAtHL, .rlcA, .rrcB, .rrcC, .rrcD, .rrcE, .rrcH, .rrcL, .rrcAtHL,
    .rrcA ]

/-- Row 1x of the CB map of rule R108. -/
def cbRow1 : List Instr :=
  [
    .rlB, .rlC, .rlD, .rlE, .rlH, .rlL, .rlAtHL, .rlA, .rrB, .rrC, .rrD, .rrE, .rrH, .rrL, .rrAtHL, .rrA ]

/-- Row 2x of the CB map of rule R108. -/
def cbRow2 : List Instr :=
  [
    .slaB, .slaC, .slaD, .slaE, .slaH, .slaL, .slaAtHL, .slaA, .sraB, .sraC, .sraD, .sraE, .sraH, .sraL, .sraAtHL,
    .sraA ]

/-- Row 3x of the CB map of rule R108. -/
def cbRow3 : List Instr :=
  [
    .swapB, .swapC, .swapD, .swapE, .swapH, .swapL, .swapAtHL, .swapA, .srlB, .srlC, .srlD, .srlE, .srlH, .srlL,
    .srlAtHL, .srlA ]

/-- Row 4x of the CB map of rule R108. -/
def cbRow4 : List Instr :=
  [
    .bit0B, .bit0C, .bit0D, .bit0E, .bit0H, .bit0L, .bit0AtHL, .bit0A, .bit1B, .bit1C, .bit1D, .bit1E, .bit1H,
    .bit1L, .bit1AtHL, .bit1A ]

/-- Row 5x of the CB map of rule R108. -/
def cbRow5 : List Instr :=
  [
    .bit2B, .bit2C, .bit2D, .bit2E, .bit2H, .bit2L, .bit2AtHL, .bit2A, .bit3B, .bit3C, .bit3D, .bit3E, .bit3H,
    .bit3L, .bit3AtHL, .bit3A ]

/-- Row 6x of the CB map of rule R108. -/
def cbRow6 : List Instr :=
  [
    .bit4B, .bit4C, .bit4D, .bit4E, .bit4H, .bit4L, .bit4AtHL, .bit4A, .bit5B, .bit5C, .bit5D, .bit5E, .bit5H,
    .bit5L, .bit5AtHL, .bit5A ]

/-- Row 7x of the CB map of rule R108. -/
def cbRow7 : List Instr :=
  [
    .bit6B, .bit6C, .bit6D, .bit6E, .bit6H, .bit6L, .bit6AtHL, .bit6A, .bit7B, .bit7C, .bit7D, .bit7E, .bit7H,
    .bit7L, .bit7AtHL, .bit7A ]

/-- Row 8x of the CB map of rule R108. -/
def cbRow8 : List Instr :=
  [
    .res0B, .res0C, .res0D, .res0E, .res0H, .res0L, .res0AtHL, .res0A, .res1B, .res1C, .res1D, .res1E, .res1H,
    .res1L, .res1AtHL, .res1A ]

/-- Row 9x of the CB map of rule R108. -/
def cbRow9 : List Instr :=
  [
    .res2B, .res2C, .res2D, .res2E, .res2H, .res2L, .res2AtHL, .res2A, .res3B, .res3C, .res3D, .res3E, .res3H,
    .res3L, .res3AtHL, .res3A ]

/-- Row Ax of the CB map of rule R108. -/
def cbRowA : List Instr :=
  [
    .res4B, .res4C, .res4D, .res4E, .res4H, .res4L, .res4AtHL, .res4A, .res5B, .res5C, .res5D, .res5E, .res5H,
    .res5L, .res5AtHL, .res5A ]

/-- Row Bx of the CB map of rule R108. -/
def cbRowB : List Instr :=
  [
    .res6B, .res6C, .res6D, .res6E, .res6H, .res6L, .res6AtHL, .res6A, .res7B, .res7C, .res7D, .res7E, .res7H,
    .res7L, .res7AtHL, .res7A ]

/-- Row Cx of the CB map of rule R108. -/
def cbRowC : List Instr :=
  [
    .set0B, .set0C, .set0D, .set0E, .set0H, .set0L, .set0AtHL, .set0A, .set1B, .set1C, .set1D, .set1E, .set1H,
    .set1L, .set1AtHL, .set1A ]

/-- Row Dx of the CB map of rule R108. -/
def cbRowD : List Instr :=
  [
    .set2B, .set2C, .set2D, .set2E, .set2H, .set2L, .set2AtHL, .set2A, .set3B, .set3C, .set3D, .set3E, .set3H,
    .set3L, .set3AtHL, .set3A ]

/-- Row Ex of the CB map of rule R108. -/
def cbRowE : List Instr :=
  [
    .set4B, .set4C, .set4D, .set4E, .set4H, .set4L, .set4AtHL, .set4A, .set5B, .set5C, .set5D, .set5E, .set5H,
    .set5L, .set5AtHL, .set5A ]

/-- Row Fx of the CB map of rule R108. -/
def cbRowF : List Instr :=
  [
    .set6B, .set6C, .set6D, .set6E, .set6H, .set6L, .set6AtHL, .set6A, .set7B, .set7C, .set7D, .set7E, .set7H,
    .set7L, .set7AtHL, .set7A ]

/-- The CB map of rule R108: the instruction of sub-opcode `sub`. -/
def cbInstr (sub : Byte) : Instr :=
  let row :=
    match sub.toNat / 16 with
    | 0 => cbRow0
    | 1 => cbRow1
    | 2 => cbRow2
    | 3 => cbRow3
    | 4 => cbRow4
    | 5 => cbRow5
    | 6 => cbRow6
    | 7 => cbRow7
    | 8 => cbRow8
    | 9 => cbRow9
    | 10 => cbRowA
    | 11 => cbRowB
    | 12 => cbRowC
    | 13 => cbRowD
    | 14 => cbRowE
    | _ => cbRowF
  row.getD (sub.toNat % 16) .nop

/-- The bytes of an instruction, opcode first, a 16-bit immediate low byte first (rules R100, R104). STOP's second byte
is the conventional `0x00` (rule R364). -/
def encode : Instr → List Byte
  | .nop => [0x00]
  | .ldBCImm16 nn => [0x01, loByte nn, hiByte nn]
  | .ldAtBCA => [0x02]
  | .incBC => [0x03]
  | .incB => [0x04]
  | .decB => [0x05]
  | .ldBImm n => [0x06, n]
  | .rlca => [0x07]
  | .ldAtImm16SP nn => [0x08, loByte nn, hiByte nn]
  | .addHLBC => [0x09]
  | .ldAAtBC => [0x0A]
  | .decBC => [0x0B]
  | .incC => [0x0C]
  | .decC => [0x0D]
  | .ldCImm n => [0x0E, n]
  | .rrca => [0x0F]
  | .stop => [0x10, 0x00]
  | .ldDEImm16 nn => [0x11, loByte nn, hiByte nn]
  | .ldAtDEA => [0x12]
  | .incDE => [0x13]
  | .incD => [0x14]
  | .decD => [0x15]
  | .ldDImm n => [0x16, n]
  | .rla => [0x17]
  | .jrDisp e => [0x18, e]
  | .addHLDE => [0x19]
  | .ldAAtDE => [0x1A]
  | .decDE => [0x1B]
  | .incE => [0x1C]
  | .decE => [0x1D]
  | .ldEImm n => [0x1E, n]
  | .rra => [0x1F]
  | .jrNZDisp e => [0x20, e]
  | .ldHLImm16 nn => [0x21, loByte nn, hiByte nn]
  | .ldAtHLIncA => [0x22]
  | .incHL => [0x23]
  | .incH => [0x24]
  | .decH => [0x25]
  | .ldHImm n => [0x26, n]
  | .daa => [0x27]
  | .jrZDisp e => [0x28, e]
  | .addHLHL => [0x29]
  | .ldAAtHLInc => [0x2A]
  | .decHL => [0x2B]
  | .incL => [0x2C]
  | .decL => [0x2D]
  | .ldLImm n => [0x2E, n]
  | .cpl => [0x2F]
  | .jrNCDisp e => [0x30, e]
  | .ldSPImm16 nn => [0x31, loByte nn, hiByte nn]
  | .ldAtHLDecA => [0x32]
  | .incSP => [0x33]
  | .incAtHL => [0x34]
  | .decAtHL => [0x35]
  | .ldAtHLImm n => [0x36, n]
  | .scf => [0x37]
  | .jrCDisp e => [0x38, e]
  | .addHLSP => [0x39]
  | .ldAAtHLDec => [0x3A]
  | .decSP => [0x3B]
  | .incA => [0x3C]
  | .decA => [0x3D]
  | .ldAImm n => [0x3E, n]
  | .ccf => [0x3F]
  | .ldBB => [0x40]
  | .ldBC => [0x41]
  | .ldBD => [0x42]
  | .ldBE => [0x43]
  | .ldBH => [0x44]
  | .ldBL => [0x45]
  | .ldBAtHL => [0x46]
  | .ldBA => [0x47]
  | .ldCB => [0x48]
  | .ldCC => [0x49]
  | .ldCD => [0x4A]
  | .ldCE => [0x4B]
  | .ldCH => [0x4C]
  | .ldCL => [0x4D]
  | .ldCAtHL => [0x4E]
  | .ldCA => [0x4F]
  | .ldDB => [0x50]
  | .ldDC => [0x51]
  | .ldDD => [0x52]
  | .ldDE => [0x53]
  | .ldDH => [0x54]
  | .ldDL => [0x55]
  | .ldDAtHL => [0x56]
  | .ldDA => [0x57]
  | .ldEB => [0x58]
  | .ldEC => [0x59]
  | .ldED => [0x5A]
  | .ldEE => [0x5B]
  | .ldEH => [0x5C]
  | .ldEL => [0x5D]
  | .ldEAtHL => [0x5E]
  | .ldEA => [0x5F]
  | .ldHB => [0x60]
  | .ldHC => [0x61]
  | .ldHD => [0x62]
  | .ldHE => [0x63]
  | .ldHH => [0x64]
  | .ldHL => [0x65]
  | .ldHAtHL => [0x66]
  | .ldHA => [0x67]
  | .ldLB => [0x68]
  | .ldLC => [0x69]
  | .ldLD => [0x6A]
  | .ldLE => [0x6B]
  | .ldLH => [0x6C]
  | .ldLL => [0x6D]
  | .ldLAtHL => [0x6E]
  | .ldLA => [0x6F]
  | .ldAtHLB => [0x70]
  | .ldAtHLC => [0x71]
  | .ldAtHLD => [0x72]
  | .ldAtHLE => [0x73]
  | .ldAtHLH => [0x74]
  | .ldAtHLL => [0x75]
  | .halt => [0x76]
  | .ldAtHLA => [0x77]
  | .ldAB => [0x78]
  | .ldAC => [0x79]
  | .ldAD => [0x7A]
  | .ldAE => [0x7B]
  | .ldAH => [0x7C]
  | .ldAL => [0x7D]
  | .ldAAtHL => [0x7E]
  | .ldAA => [0x7F]
  | .addAB => [0x80]
  | .addAC => [0x81]
  | .addAD => [0x82]
  | .addAE => [0x83]
  | .addAH => [0x84]
  | .addAL => [0x85]
  | .addAAtHL => [0x86]
  | .addAA => [0x87]
  | .adcAB => [0x88]
  | .adcAC => [0x89]
  | .adcAD => [0x8A]
  | .adcAE => [0x8B]
  | .adcAH => [0x8C]
  | .adcAL => [0x8D]
  | .adcAAtHL => [0x8E]
  | .adcAA => [0x8F]
  | .subB => [0x90]
  | .subC => [0x91]
  | .subD => [0x92]
  | .subE => [0x93]
  | .subH => [0x94]
  | .subL => [0x95]
  | .subAtHL => [0x96]
  | .subA => [0x97]
  | .sbcAB => [0x98]
  | .sbcAC => [0x99]
  | .sbcAD => [0x9A]
  | .sbcAE => [0x9B]
  | .sbcAH => [0x9C]
  | .sbcAL => [0x9D]
  | .sbcAAtHL => [0x9E]
  | .sbcAA => [0x9F]
  | .andB => [0xA0]
  | .andC => [0xA1]
  | .andD => [0xA2]
  | .andE => [0xA3]
  | .andH => [0xA4]
  | .andL => [0xA5]
  | .andAtHL => [0xA6]
  | .andA => [0xA7]
  | .xorB => [0xA8]
  | .xorC => [0xA9]
  | .xorD => [0xAA]
  | .xorE => [0xAB]
  | .xorH => [0xAC]
  | .xorL => [0xAD]
  | .xorAtHL => [0xAE]
  | .xorA => [0xAF]
  | .orB => [0xB0]
  | .orC => [0xB1]
  | .orD => [0xB2]
  | .orE => [0xB3]
  | .orH => [0xB4]
  | .orL => [0xB5]
  | .orAtHL => [0xB6]
  | .orA => [0xB7]
  | .cpB => [0xB8]
  | .cpC => [0xB9]
  | .cpD => [0xBA]
  | .cpE => [0xBB]
  | .cpH => [0xBC]
  | .cpL => [0xBD]
  | .cpAtHL => [0xBE]
  | .cpA => [0xBF]
  | .retNZ => [0xC0]
  | .popBC => [0xC1]
  | .jpNZImm16 nn => [0xC2, loByte nn, hiByte nn]
  | .jpImm16 nn => [0xC3, loByte nn, hiByte nn]
  | .callNZImm16 nn => [0xC4, loByte nn, hiByte nn]
  | .pushBC => [0xC5]
  | .addAImm n => [0xC6, n]
  | .rst00 => [0xC7]
  | .retZ => [0xC8]
  | .ret => [0xC9]
  | .jpZImm16 nn => [0xCA, loByte nn, hiByte nn]
  | .prefixCb sub => [0xCB, sub]
  | .callZImm16 nn => [0xCC, loByte nn, hiByte nn]
  | .callImm16 nn => [0xCD, loByte nn, hiByte nn]
  | .adcAImm n => [0xCE, n]
  | .rst08 => [0xCF]
  | .retNC => [0xD0]
  | .popDE => [0xD1]
  | .jpNCImm16 nn => [0xD2, loByte nn, hiByte nn]
  | .illegal op => [op]
  | .callNCImm16 nn => [0xD4, loByte nn, hiByte nn]
  | .pushDE => [0xD5]
  | .subImm n => [0xD6, n]
  | .rst10 => [0xD7]
  | .retC => [0xD8]
  | .reti => [0xD9]
  | .jpCImm16 nn => [0xDA, loByte nn, hiByte nn]
  | .callCImm16 nn => [0xDC, loByte nn, hiByte nn]
  | .sbcAImm n => [0xDE, n]
  | .rst18 => [0xDF]
  | .ldhAtImmA n => [0xE0, n]
  | .popHL => [0xE1]
  | .ldAtCA => [0xE2]
  | .pushHL => [0xE5]
  | .andImm n => [0xE6, n]
  | .rst20 => [0xE7]
  | .addSPDisp e => [0xE8, e]
  | .jpHL => [0xE9]
  | .ldAtImm16A nn => [0xEA, loByte nn, hiByte nn]
  | .xorImm n => [0xEE, n]
  | .rst28 => [0xEF]
  | .ldhAAtImm n => [0xF0, n]
  | .popAF => [0xF1]
  | .ldAAtC => [0xF2]
  | .di => [0xF3]
  | .pushAF => [0xF5]
  | .orImm n => [0xF6, n]
  | .rst30 => [0xF7]
  | .ldHLSPDisp e => [0xF8, e]
  | .ldSPHL => [0xF9]
  | .ldAAtImm16 nn => [0xFA, loByte nn, hiByte nn]
  | .ei => [0xFB]
  | .cpImm n => [0xFE, n]
  | .rst38 => [0xFF]
  | .rlcB => [0xCB, 0x00]
  | .rlcC => [0xCB, 0x01]
  | .rlcD => [0xCB, 0x02]
  | .rlcE => [0xCB, 0x03]
  | .rlcH => [0xCB, 0x04]
  | .rlcL => [0xCB, 0x05]
  | .rlcAtHL => [0xCB, 0x06]
  | .rlcA => [0xCB, 0x07]
  | .rrcB => [0xCB, 0x08]
  | .rrcC => [0xCB, 0x09]
  | .rrcD => [0xCB, 0x0A]
  | .rrcE => [0xCB, 0x0B]
  | .rrcH => [0xCB, 0x0C]
  | .rrcL => [0xCB, 0x0D]
  | .rrcAtHL => [0xCB, 0x0E]
  | .rrcA => [0xCB, 0x0F]
  | .rlB => [0xCB, 0x10]
  | .rlC => [0xCB, 0x11]
  | .rlD => [0xCB, 0x12]
  | .rlE => [0xCB, 0x13]
  | .rlH => [0xCB, 0x14]
  | .rlL => [0xCB, 0x15]
  | .rlAtHL => [0xCB, 0x16]
  | .rlA => [0xCB, 0x17]
  | .rrB => [0xCB, 0x18]
  | .rrC => [0xCB, 0x19]
  | .rrD => [0xCB, 0x1A]
  | .rrE => [0xCB, 0x1B]
  | .rrH => [0xCB, 0x1C]
  | .rrL => [0xCB, 0x1D]
  | .rrAtHL => [0xCB, 0x1E]
  | .rrA => [0xCB, 0x1F]
  | .slaB => [0xCB, 0x20]
  | .slaC => [0xCB, 0x21]
  | .slaD => [0xCB, 0x22]
  | .slaE => [0xCB, 0x23]
  | .slaH => [0xCB, 0x24]
  | .slaL => [0xCB, 0x25]
  | .slaAtHL => [0xCB, 0x26]
  | .slaA => [0xCB, 0x27]
  | .sraB => [0xCB, 0x28]
  | .sraC => [0xCB, 0x29]
  | .sraD => [0xCB, 0x2A]
  | .sraE => [0xCB, 0x2B]
  | .sraH => [0xCB, 0x2C]
  | .sraL => [0xCB, 0x2D]
  | .sraAtHL => [0xCB, 0x2E]
  | .sraA => [0xCB, 0x2F]
  | .swapB => [0xCB, 0x30]
  | .swapC => [0xCB, 0x31]
  | .swapD => [0xCB, 0x32]
  | .swapE => [0xCB, 0x33]
  | .swapH => [0xCB, 0x34]
  | .swapL => [0xCB, 0x35]
  | .swapAtHL => [0xCB, 0x36]
  | .swapA => [0xCB, 0x37]
  | .srlB => [0xCB, 0x38]
  | .srlC => [0xCB, 0x39]
  | .srlD => [0xCB, 0x3A]
  | .srlE => [0xCB, 0x3B]
  | .srlH => [0xCB, 0x3C]
  | .srlL => [0xCB, 0x3D]
  | .srlAtHL => [0xCB, 0x3E]
  | .srlA => [0xCB, 0x3F]
  | .bit0B => [0xCB, 0x40]
  | .bit0C => [0xCB, 0x41]
  | .bit0D => [0xCB, 0x42]
  | .bit0E => [0xCB, 0x43]
  | .bit0H => [0xCB, 0x44]
  | .bit0L => [0xCB, 0x45]
  | .bit0AtHL => [0xCB, 0x46]
  | .bit0A => [0xCB, 0x47]
  | .bit1B => [0xCB, 0x48]
  | .bit1C => [0xCB, 0x49]
  | .bit1D => [0xCB, 0x4A]
  | .bit1E => [0xCB, 0x4B]
  | .bit1H => [0xCB, 0x4C]
  | .bit1L => [0xCB, 0x4D]
  | .bit1AtHL => [0xCB, 0x4E]
  | .bit1A => [0xCB, 0x4F]
  | .bit2B => [0xCB, 0x50]
  | .bit2C => [0xCB, 0x51]
  | .bit2D => [0xCB, 0x52]
  | .bit2E => [0xCB, 0x53]
  | .bit2H => [0xCB, 0x54]
  | .bit2L => [0xCB, 0x55]
  | .bit2AtHL => [0xCB, 0x56]
  | .bit2A => [0xCB, 0x57]
  | .bit3B => [0xCB, 0x58]
  | .bit3C => [0xCB, 0x59]
  | .bit3D => [0xCB, 0x5A]
  | .bit3E => [0xCB, 0x5B]
  | .bit3H => [0xCB, 0x5C]
  | .bit3L => [0xCB, 0x5D]
  | .bit3AtHL => [0xCB, 0x5E]
  | .bit3A => [0xCB, 0x5F]
  | .bit4B => [0xCB, 0x60]
  | .bit4C => [0xCB, 0x61]
  | .bit4D => [0xCB, 0x62]
  | .bit4E => [0xCB, 0x63]
  | .bit4H => [0xCB, 0x64]
  | .bit4L => [0xCB, 0x65]
  | .bit4AtHL => [0xCB, 0x66]
  | .bit4A => [0xCB, 0x67]
  | .bit5B => [0xCB, 0x68]
  | .bit5C => [0xCB, 0x69]
  | .bit5D => [0xCB, 0x6A]
  | .bit5E => [0xCB, 0x6B]
  | .bit5H => [0xCB, 0x6C]
  | .bit5L => [0xCB, 0x6D]
  | .bit5AtHL => [0xCB, 0x6E]
  | .bit5A => [0xCB, 0x6F]
  | .bit6B => [0xCB, 0x70]
  | .bit6C => [0xCB, 0x71]
  | .bit6D => [0xCB, 0x72]
  | .bit6E => [0xCB, 0x73]
  | .bit6H => [0xCB, 0x74]
  | .bit6L => [0xCB, 0x75]
  | .bit6AtHL => [0xCB, 0x76]
  | .bit6A => [0xCB, 0x77]
  | .bit7B => [0xCB, 0x78]
  | .bit7C => [0xCB, 0x79]
  | .bit7D => [0xCB, 0x7A]
  | .bit7E => [0xCB, 0x7B]
  | .bit7H => [0xCB, 0x7C]
  | .bit7L => [0xCB, 0x7D]
  | .bit7AtHL => [0xCB, 0x7E]
  | .bit7A => [0xCB, 0x7F]
  | .res0B => [0xCB, 0x80]
  | .res0C => [0xCB, 0x81]
  | .res0D => [0xCB, 0x82]
  | .res0E => [0xCB, 0x83]
  | .res0H => [0xCB, 0x84]
  | .res0L => [0xCB, 0x85]
  | .res0AtHL => [0xCB, 0x86]
  | .res0A => [0xCB, 0x87]
  | .res1B => [0xCB, 0x88]
  | .res1C => [0xCB, 0x89]
  | .res1D => [0xCB, 0x8A]
  | .res1E => [0xCB, 0x8B]
  | .res1H => [0xCB, 0x8C]
  | .res1L => [0xCB, 0x8D]
  | .res1AtHL => [0xCB, 0x8E]
  | .res1A => [0xCB, 0x8F]
  | .res2B => [0xCB, 0x90]
  | .res2C => [0xCB, 0x91]
  | .res2D => [0xCB, 0x92]
  | .res2E => [0xCB, 0x93]
  | .res2H => [0xCB, 0x94]
  | .res2L => [0xCB, 0x95]
  | .res2AtHL => [0xCB, 0x96]
  | .res2A => [0xCB, 0x97]
  | .res3B => [0xCB, 0x98]
  | .res3C => [0xCB, 0x99]
  | .res3D => [0xCB, 0x9A]
  | .res3E => [0xCB, 0x9B]
  | .res3H => [0xCB, 0x9C]
  | .res3L => [0xCB, 0x9D]
  | .res3AtHL => [0xCB, 0x9E]
  | .res3A => [0xCB, 0x9F]
  | .res4B => [0xCB, 0xA0]
  | .res4C => [0xCB, 0xA1]
  | .res4D => [0xCB, 0xA2]
  | .res4E => [0xCB, 0xA3]
  | .res4H => [0xCB, 0xA4]
  | .res4L => [0xCB, 0xA5]
  | .res4AtHL => [0xCB, 0xA6]
  | .res4A => [0xCB, 0xA7]
  | .res5B => [0xCB, 0xA8]
  | .res5C => [0xCB, 0xA9]
  | .res5D => [0xCB, 0xAA]
  | .res5E => [0xCB, 0xAB]
  | .res5H => [0xCB, 0xAC]
  | .res5L => [0xCB, 0xAD]
  | .res5AtHL => [0xCB, 0xAE]
  | .res5A => [0xCB, 0xAF]
  | .res6B => [0xCB, 0xB0]
  | .res6C => [0xCB, 0xB1]
  | .res6D => [0xCB, 0xB2]
  | .res6E => [0xCB, 0xB3]
  | .res6H => [0xCB, 0xB4]
  | .res6L => [0xCB, 0xB5]
  | .res6AtHL => [0xCB, 0xB6]
  | .res6A => [0xCB, 0xB7]
  | .res7B => [0xCB, 0xB8]
  | .res7C => [0xCB, 0xB9]
  | .res7D => [0xCB, 0xBA]
  | .res7E => [0xCB, 0xBB]
  | .res7H => [0xCB, 0xBC]
  | .res7L => [0xCB, 0xBD]
  | .res7AtHL => [0xCB, 0xBE]
  | .res7A => [0xCB, 0xBF]
  | .set0B => [0xCB, 0xC0]
  | .set0C => [0xCB, 0xC1]
  | .set0D => [0xCB, 0xC2]
  | .set0E => [0xCB, 0xC3]
  | .set0H => [0xCB, 0xC4]
  | .set0L => [0xCB, 0xC5]
  | .set0AtHL => [0xCB, 0xC6]
  | .set0A => [0xCB, 0xC7]
  | .set1B => [0xCB, 0xC8]
  | .set1C => [0xCB, 0xC9]
  | .set1D => [0xCB, 0xCA]
  | .set1E => [0xCB, 0xCB]
  | .set1H => [0xCB, 0xCC]
  | .set1L => [0xCB, 0xCD]
  | .set1AtHL => [0xCB, 0xCE]
  | .set1A => [0xCB, 0xCF]
  | .set2B => [0xCB, 0xD0]
  | .set2C => [0xCB, 0xD1]
  | .set2D => [0xCB, 0xD2]
  | .set2E => [0xCB, 0xD3]
  | .set2H => [0xCB, 0xD4]
  | .set2L => [0xCB, 0xD5]
  | .set2AtHL => [0xCB, 0xD6]
  | .set2A => [0xCB, 0xD7]
  | .set3B => [0xCB, 0xD8]
  | .set3C => [0xCB, 0xD9]
  | .set3D => [0xCB, 0xDA]
  | .set3E => [0xCB, 0xDB]
  | .set3H => [0xCB, 0xDC]
  | .set3L => [0xCB, 0xDD]
  | .set3AtHL => [0xCB, 0xDE]
  | .set3A => [0xCB, 0xDF]
  | .set4B => [0xCB, 0xE0]
  | .set4C => [0xCB, 0xE1]
  | .set4D => [0xCB, 0xE2]
  | .set4E => [0xCB, 0xE3]
  | .set4H => [0xCB, 0xE4]
  | .set4L => [0xCB, 0xE5]
  | .set4AtHL => [0xCB, 0xE6]
  | .set4A => [0xCB, 0xE7]
  | .set5B => [0xCB, 0xE8]
  | .set5C => [0xCB, 0xE9]
  | .set5D => [0xCB, 0xEA]
  | .set5E => [0xCB, 0xEB]
  | .set5H => [0xCB, 0xEC]
  | .set5L => [0xCB, 0xED]
  | .set5AtHL => [0xCB, 0xEE]
  | .set5A => [0xCB, 0xEF]
  | .set6B => [0xCB, 0xF0]
  | .set6C => [0xCB, 0xF1]
  | .set6D => [0xCB, 0xF2]
  | .set6E => [0xCB, 0xF3]
  | .set6H => [0xCB, 0xF4]
  | .set6L => [0xCB, 0xF5]
  | .set6AtHL => [0xCB, 0xF6]
  | .set6A => [0xCB, 0xF7]
  | .set7B => [0xCB, 0xF8]
  | .set7C => [0xCB, 0xF9]
  | .set7D => [0xCB, 0xFA]
  | .set7E => [0xCB, 0xFB]
  | .set7H => [0xCB, 0xFC]
  | .set7L => [0xCB, 0xFD]
  | .set7AtHL => [0xCB, 0xFE]
  | .set7A => [0xCB, 0xFF]

/-- The length field of rule R100: how many bytes the base opcode `op` takes, 2 for the prefix. -/
def opcodeLength (op : Byte) : Nat := (encode (baseInstr op 0 0)).length

/-- Reads one instruction from the front of a list of bytes and leaves the rest (rule R100). The second byte of STOP "is not
checked" (rule R364): it is skipped if it is there. -/
def decode : List Byte → Except DecodeReject (Instr × List Byte)
  | [] => .error .noOpcode
  | op :: rest =>
    if op = 0xCB then
      match rest with
      | [] => .error .noSubOpcode
      | sub :: rest' => .ok (cbInstr sub, rest')
    else if op = 0x10 then .ok (.stop, rest.drop 1)
    else
      match opcodeLength op, rest with
      | 1, _ => .ok (baseInstr op 0 0, rest)
      | 2, b1 :: rest' => .ok (baseInstr op b1 0, rest')
      | 3, b1 :: b2 :: rest' => .ok (baseInstr op b1 b2, rest')
      | _, _ => .error .noOperand

/-- Which opcode an instruction has: a base byte, or a sub-opcode after the prefix `0xCB`. The key of the cycle table of
rules R520 and R521. -/
inductive OpKey where
  | base (op : Byte)
  | cb (sub : Byte)
  deriving DecidableEq, Repr

/-- The opcode of an instruction, read off its bytes. -/
def Instr.opKey (i : Instr) : OpKey :=
  match encode i with
  | op :: sub :: _ => if op = 0xCB then .cb sub else .base op
  | op :: _ => .base op
  | [] => .base 0

/-- The encoded length that step (e) of rule R110 adds to PC. -/
def OpKey.length : OpKey → Nat
  | .base op => opcodeLength op
  | .cb _ => 2

/-- The bytes, lowest address first, of an instruction given as one number of `nbits` bits with every later bit 0. A CB
row of the table is numbered `{byte0, byte1}` (rule R113: "A CB row's apply to the 16-bit value"), so a 16-bit number
whose high byte is `0xCB` is the prefix and its sub-opcode; any other number has byte 0 in bits 7..0 (log 8). -/
def tableBytes (nbits w : Nat) : List Byte :=
  let v := w % 2 ^ nbits
  if nbits = 16 ∧ v / 256 = 0xCB then [0xCB, BitVec.ofNat 8 v, 0]
  else [BitVec.ofNat 8 v, BitVec.ofNat 8 (v / 256), BitVec.ofNat 8 (v / 65536)]

/-- What the decoder reads from an instruction given as the opcode table numbers its bits. -/
def decodeTableWord (nbits w : Nat) : Option Instr :=
  match decode (tableBytes nbits w) with
  | .ok (i, _) => some i
  | .error _ => none

end Sys2Proof
end

