-- ==== Sys2Proof/Machine/Params.lean ====
section
/-! DEFINITION. The launch parameters of rule R8 as plain data (log 2): the types of their values, the named opcode sets
of rule R9 and the defaults. BOOT, CART and INIT_RAM are not here: they are contents of the stores of `State`. -/

namespace Sys2Proof.Machine

/-- `FLAG_MODEL` (rule R27): how the H and N flags are written. -/
inductive FlagModel where
  /-- `ZC_DRAW`: each write of H or N is a draw. -/
  | zcDraw
  /-- `ZC_PRESERVE`: H and N are left as they are. -/
  | zcPreserve
  /-- `FULL`: H and N get the values of the complete flag model. -/
  | full
  deriving DecidableEq, Repr

/-- `ACC_ROTATE_Z` (decision D6): how RLCA, RRCA, RLA and RRA write Z. -/
inductive AccRotateZ where
  /-- `CLEAR`: Z becomes 0. -/
  | clear
  /-- `ZERO_RULE`: Z follows the zero rule. -/
  | zeroRule
  deriving DecidableEq, Repr

/-- `DELIVERY` (rule R412): how many pending counters one delivery consumes. -/
inductive Delivery where
  /-- `ONE_PER_STEP`: the dispatched source's counter only. -/
  | onePerStep
  /-- `CONSUME_ALL`: every eligible source's counter. -/
  | consumeAll
  deriving DecidableEq, Repr

/-- A set of byte values: bit `b` is set exactly when the byte `b` is in it (rule R8, "set of bytes"). -/
abbrev ByteSet := BitVec 256

/-- Membership. -/
def ByteSet.mem (bs : ByteSet) (b : Byte) : Bool := bs.getLsbD b.toNat

/-- The one-element set. -/
def ByteSet.single (b : Byte) : ByteSet := (1 : BitVec 256) <<< b.toNat

/-- Adds a byte. -/
def ByteSet.insert (bs : ByteSet) (b : Byte) : ByteSet := bs ||| ByteSet.single b

/-- Removes a byte. -/
def ByteSet.erase (bs : ByteSet) (b : Byte) : ByteSet := bs &&& ~~~ByteSet.single b

/-- The bytes `lo`, `lo + 1`, …, `n` of them. -/
def ByteSet.run (lo n : Nat) : ByteSet := BitVec.ofNat 256 ((2 ^ n - 1) * 2 ^ lo)

/-- `BASE_FULL` of rule R9: "every byte except `0xCB` and the eleven bytes". -/
def ByteSet.baseFull : ByteSet :=
  (0xCB :: illegalBytes).foldl ByteSet.erase (BitVec.allOnes 256)

/-- `CB_DOC` of rule R9: "`0x10..0x1F` (RL, RR), `0x30..0x37` (SWAP) and `0x40..0xFF` (BIT, RES, SET)". -/
def ByteSet.cbDoc : ByteSet :=
  ByteSet.run 0x10 0x10 ||| ByteSet.run 0x30 8 ||| ByteSet.run 0x40 0xC0

/-- `CB_FULL` of rule R9: "all 256 sub-opcodes". -/
def ByteSet.cbFull : ByteSet := BitVec.allOnes 256

/-- The four words of `SHADE_RGBA`, white, light gray, dark gray and black (rule R456). -/
structure ShadeRgba where
  white : BitVec 32
  lightGray : BitVec 32
  darkGray : BitVec 32
  black : BitVec 32
  deriving DecidableEq, Repr

/-- One replaced cell of the cycle table: the costs of an opcode when taken and when not taken (rule R522). -/
structure CycleEntry where
  key : OpKey
  taken : Nat
  notTaken : Nat
  deriving DecidableEq, Repr

/-- The parameters of rule R8 that are not byte images. Fixed at construction (rule R43): no step changes one. -/
structure Params where
  /-- `SUPPORTED_BASE`: the non-`0xCB` opcodes the decoder accepts. -/
  supportedBase : ByteSet
  /-- `SUPPORTED_CB`: the sub-opcodes the decoder accepts. -/
  supportedCb : ByteSet
  /-- `FLAG_MODEL`. -/
  flagModel : FlagModel
  /-- `ACC_ROTATE_Z`. -/
  accRotateZ : AccRotateZ
  /-- `IE_GATES`: "whether delivery requires the source's IE bit". -/
  ieGates : Bool
  /-- `DELIVERY`. -/
  delivery : Delivery
  /-- `DISPATCH_CYCLES`. -/
  dispatchCycles : Nat
  /-- `IF_UNUSED`: what bits 7..5 of a read of `0xFF0F` return. -/
  ifUnused : BitVec 3
  /-- `JOYPAD_VALUE`, OPEN. -/
  joypadValue : Byte
  /-- `EXTENDED_VARIANT`: whether LCD sub-addresses 8 and 9 are sprite palettes. -/
  extendedVariant : Bool
  /-- `LY_MAX`, OPEN. -/
  lyMax : Byte
  /-- `SHADE_RGBA`, OPEN. -/
  shadeRgba : ShadeRgba
  /-- `RENDER_MARGIN`: extra tile rows and columns the renderer draws. -/
  renderMargin : Nat
  /-- `CYCLES`: the cells that replace the table of rule R520, the first entry of a key counting (log 11). -/
  cycles : List CycleEntry
  /-- `CYCLES(HALT_IDLE)`. -/
  haltIdle : Nat
  deriving DecidableEq, Repr

/-- The defaults of rule R8; the three parameters that are OPEN there are free constants of `Config` (log 3). -/
def Params.default : Params where
  supportedBase := ByteSet.baseFull
  supportedCb := ByteSet.cbDoc
  flagModel := .zcDraw
  accRotateZ := .clear
  ieGates := true
  delivery := .onePerStep
  dispatchCycles := 20
  ifUnused := 0b111
  joypadValue := Config.joypadValue
  extendedVariant := false
  lyMax := Config.lyMax
  shadeRgba :=
    { white := Config.shadeRgba 0, lightGray := Config.shadeRgba 1, darkGray := Config.shadeRgba 2,
      black := Config.shadeRgba 3 }
  renderMargin := 1
  cycles := []
  haltIdle := 4

end Sys2Proof.Machine
end

