-- ==== Sys2Proof/Machine/State.lean ====
section
/-! DEFINITION. Everything the spec gives the machine (spec/10_state.md), as plain data, and the state after
construction (rule R500). -/

namespace Sys2Proof.Machine

/-- The flag register F: its bits 7..4; bits 3..0 are hardwired 0 and hold nothing (rule R24). The byte is `Flags.toByte`
(log 16). -/
structure Flags where
  /-- Zero, bit 7. -/
  z : Bool
  /-- Subtract, bit 6. -/
  n : Bool
  /-- Half carry, bit 5. -/
  h : Bool
  /-- Carry, bit 4. -/
  c : Bool
  deriving DecidableEq, Repr

/-- The register file, SP and PC (rules R20 to R24). A pair is two named 8-bit fields (rule R21). -/
structure Regs where
  a : Byte
  /-- F, as its four flags. -/
  flags : Flags
  b : Byte
  c : Byte
  d : Byte
  e : Byte
  h : Byte
  l : Byte
  sp : Word
  pc : Word
  deriving DecidableEq, Repr

/-- The five interrupt sources, in the order of their index (rule R31). -/
inductive Source where
  | vblank
  | stat
  | timer
  | serial
  | joypad
  deriving DecidableEq, Repr

/-- The five pending counters, "no upper bound" (rule R32). -/
structure Pending where
  vblank : Nat
  stat : Nat
  timer : Nat
  serial : Nat
  joypad : Nat
  deriving DecidableEq, Repr

/-- The interrupt state (rule R30). -/
structure Irq where
  pending : Pending
  /-- The enable mask (rule R33). -/
  ie : Byte
  /-- The master enable (rule R34). -/
  ime : Bool
  /-- `ime_prev`, the snapshot that delivery reads (rules R34, R417). -/
  imePrev : Bool
  deriving DecidableEq, Repr

/-- The bus's backing stores (rule R37), each in the canonical form of `Memory.wf`, indexed from the store's first byte. -/
structure Stores where
  boot : List Host.Cell
  cart : List Host.Cell
  cartSize : Nat
  vram : List Host.Cell
  wram : List Host.Cell
  hram : List Host.Cell
  /-- Whether BOOT overlays `0x0000..0x00FF` (rule R38). -/
  bootEnabled : Bool
  deriving DecidableEq, Repr

/-- A shade, index 0 to 3 (rule R39). -/
inductive Shade where
  | white
  | lightGray
  | darkGray
  | black
  deriving DecidableEq, Repr

/-- The background colour table, four shades (rule R39). -/
structure BgTable where
  entry0 : Shade
  entry1 : Shade
  entry2 : Shade
  entry3 : Shade
  deriving DecidableEq, Repr

/-- A sprite palette's table, entries 1 to 3 (rules R39, R445). -/
structure ObjTable where
  entry1 : Shade
  entry2 : Shade
  entry3 : Shade
  deriving DecidableEq, Repr

/-- The display state (rule R39). The eight LCDC flags are the bits of `lcdc` (rule R40: "`flag_k = LCDC[k]` always"). -/
structure Lcd where
  lcdc : Byte
  scy : Byte
  scx : Byte
  ly : Byte
  bgp : Byte
  bgTable : BgTable
  obp0 : Byte
  obp1 : Byte
  obp0Table : ObjTable
  obp1Table : ObjTable
  /-- The framebuffer, row-major: pixel (y, x) at index `160 y + x`, white where unlisted (rule R456, log 14). -/
  fb : List (Nat × Shade)
  deriving DecidableEq, Repr

/-- The features of `UnimplementedFeatureError` (rule R400). -/
inductive Feature where
  /-- `LCD_READ(k)`: a read of an LCD sub-address with no read behaviour; fatal. -/
  | lcdRead (k : Nat)
  /-- `LCD_WRITE(k)`: a write of an LCD sub-address with no write behaviour; an event. -/
  | lcdWrite (k : Nat)
  /-- `LY_WRITE`: a write of `0xFF44`; an event. -/
  | lyWrite
  /-- `SIGNED_TILE_DATA`: a render with LCDC bit 4 clear; an event. -/
  | signedTileData
  /-- `JOYPAD_WRITE`: a write of the joypad address; an event. -/
  | joypadWrite
  /-- `DAA` unless `FLAG_MODEL = FULL`; fatal. -/
  | daa
  /-- `STOP`; fatal. -/
  | stop
  /-- `HALT_BUG`: HALT with IME false and a request waiting; fatal. -/
  | haltBug
  deriving DecidableEq, Repr

/-- The fatal errors of a step (rules R400, R404). Code 1, `LoadError`, arises at construction only. -/
inductive FatalError where
  /-- `UnmappedReadError`, code 2, with the address. -/
  | unmappedRead (a : Word)
  /-- `DecodeError`, code 4, with PC, the opcode and, after `0xCB`, the sub-opcode. -/
  | decode (pc : Word) (op : Byte) (sub : Option Byte)
  /-- `UnimplementedFeatureError`, code 5, for a read or an instruction. -/
  | unimplemented (f : Feature)
  deriving DecidableEq, Repr

/-- The non-fatal, logged events of a step (rule R400). -/
inductive Event where
  /-- `UnmappedWriteError`, code 3, with the address and the value. -/
  | unmappedWrite (a : Word) (v : Byte)
  /-- `UnimplementedFeatureError`, code 5, for a write. -/
  | unimplemented (f : Feature)
  deriving DecidableEq, Repr

/-- The construction-time error of rule R500, code 1. -/
inductive LoadError where
  /-- The boot image has this length and not 256. -/
  | bootLength (n : Nat)
  deriving DecidableEq, Repr

/-- The machine's state. The fields from `regs` to `cycles` and `fatal` are those of spec/10_state.md; `params` holds the
launch parameters of rule R43 (log 2); `events` and `draws` are the model's own (log 9, log 5). -/
structure State where
  regs : Regs
  irq : Irq
  mem : Stores
  lcd : Lcd
  /-- HALT has been executed and nothing has woken the CPU (rule R35). -/
  halted : Bool
  /-- The CPU's stop mark (rule R36): absent, or the fatal error that ended the last step (log 1). -/
  fatal : Option FatalError
  /-- The running cycle counter (rule R41). -/
  cycles : Nat
  params : Params
  /-- The events of the step's result, oldest first: `Ok(events)` or `Fatal(error, events)` (rule R401). -/
  events : List Event
  /-- How many draws rule R27 has taken; the next one is `Config.freeFlag draws`. -/
  draws : Nat
  deriving DecidableEq, Repr

/-- Why there is no step. -/
inductive Fault where
  /-- `fatal` is set to `e`: "A step is not taken while `fatal` is set" (rules R36, R401; U28 calls it stuck). Raised by
  `step` alone, at the step after the one that recorded `e`. Safe: the hardware takes no step either. -/
  | stopped (e : FatalError)
  deriving DecidableEq, Repr

/-- Why an instruction has no meaning. -/
inductive Refusal where
  /-- The instruction is not modelled yet. Raised by `exec`'s arms alone; no arm does. Safe. -/
  | notModelled (mnemonic : String)
  deriving DecidableEq, Repr

/-- The state after construction (rule R500) with the parameters' defaults and nothing listed in any store (log 4). -/
def State.reset : State where
  regs :=
    { a := 0, flags := { z := false, n := false, h := false, c := false }, b := 0, c := 0, d := 0, e := 0, h := 0
      l := 0, sp := 0, pc := 0 }
  irq :=
    { pending := { vblank := 0, stat := 0, timer := 0, serial := 0, joypad := 0 }, ie := 0, ime := false,
      imePrev := false }
  mem :=
    { boot := [], cart := [], cartSize := 0, vram := [], wram := [], hram := [], bootEnabled := true }
  lcd :=
    { lcdc := 0, scy := 0, scx := 0, ly := 0, bgp := 0
      bgTable := { entry0 := .white, entry1 := .white, entry2 := .white, entry3 := .white }
      obp0 := 0, obp1 := 0
      obp0Table := { entry1 := .white, entry2 := .white, entry3 := .white }
      obp1Table := { entry1 := .white, entry2 := .white, entry3 := .white }
      fb := [] }
  halted := false
  fatal := none
  cycles := 0
  params := Params.default
  events := []
  draws := 0

end Sys2Proof.Machine
end

