-- ==== Sys2Proof/Machine/Display.lean ====
section
/-! DEFINITION. The display controller (rules R440 to R461): palette decode, the background renderer, the registers at
`0xFF40..0xFF4F`, and the error log it writes to. -/

namespace Sys2Proof.Machine

/-- Appends a non-fatal event to the step's event list (rule R400: "appended to the step's event list and changes no
state"). -/
def State.log (s : State) (ev : Event) : State := { s with events := s.events ++ [ev] }

/-- Puts a display state in place. -/
def State.setLcd (s : State) (l : Lcd) : State := { s with lcd := l }

/-- Entry `i` of a palette: bits `2i+1..2i` through SHADE_RAMP (rule R444). -/
def paletteShade (v : Byte) (i : Nat) : Shade :=
  match v.toNat / 4 ^ i % 4 with
  | 0 => .white
  | 1 => .lightGray
  | 2 => .darkGray
  | _ => .black

/-- The table of a background palette byte (rule R444). -/
def decodeBgp (v : Byte) : BgTable where
  entry0 := paletteShade v 0
  entry1 := paletteShade v 1
  entry2 := paletteShade v 2
  entry3 := paletteShade v 3

/-- The table of a sprite palette byte: "bits 1..0 are not decoded" (rule R445). -/
def decodeObp (v : Byte) : ObjTable where
  entry1 := paletteShade v 1
  entry2 := paletteShade v 2
  entry3 := paletteShade v 3

/-- `bg_table[i]` for a 2-bit index. -/
def BgTable.get (t : BgTable) (i : Nat) : Shade :=
  match i with
  | 0 => t.entry0
  | 1 => t.entry1
  | 2 => t.entry2
  | _ => t.entry3

/-- LCDC flag `k` (rule R40: "`flag_k = LCDC[k]` always"). -/
def Lcd.flag (l : Lcd) (k : Nat) : Bool := l.lcdc.getLsbD k

/-- The VRAM offset of the selected tile map (rule R451). -/
def Lcd.mapOffset (l : Lcd) : Nat := if l.flag 3 then 0x1C00 else 0x1800

/-- The colour index of pixel column `px` of a tile row: "bit 7 is the leftmost pixel" (rules R453, R455). -/
def pixelIndex (lo hi : Byte) (px : Nat) : Nat :=
  2 * (hi.getLsbD (7 - px)).toNat + (lo.getLsbD (7 - px)).toNat

/-- The framebuffer row of row `py` of tile row `i` (rule R453), the remainder being the one in `0..143` (log 15). -/
def Lcd.pixelRow (l : Lcd) (i py : Nat) : Nat := (8 * i + py + 144 - l.scy.toNat % 8) % 144

/-- The framebuffer column of column `px` of tile column `j` (rule R453), the remainder being the one in `0..159`
(log 15). -/
def Lcd.pixelColumn (l : Lcd) (j px : Nat) : Nat := (8 * j + px + 160 - l.scx.toNat % 8) % 160

/-- Draws one pixel: index 0 is transparent (rule R453). -/
def paintPixel (l : Lcd) (i j py : Nat) (lo hi : Byte) (fb : List (Nat × Shade)) (px : Nat) : List (Nat × Shade) :=
  let idx := pixelIndex lo hi px
  if idx = 0 then fb
  else Memory.write .white fb (160 * l.pixelRow i py + l.pixelColumn j px) (l.bgTable.get idx)

/-- Draws row `py` of a tile: bytes `16 t + 2 py` and `16 t + 2 py + 1` (rule R455). -/
def paintTileRow (vram : List Host.Cell) (l : Lcd) (i j t : Nat) (fb : List (Nat × Shade)) (py : Nat) :
    List (Nat × Shade) :=
  let lo := readByte vram (16 * t + 2 * py)
  let hi := readByte vram (16 * t + 2 * py + 1)
  (List.range 8).foldl (paintPixel l i j py lo hi) fb

/-- Draws the tile at tile row `i` and tile column `j` of the screen (rule R453). -/
def paintTile (vram : List Host.Cell) (l : Lcd) (i : Nat) (fb : List (Nat × Shade)) (j : Nat) : List (Nat × Shade) :=
  let row := (l.scy.toNat / 8 + i) % 32
  let col := (l.scx.toNat / 8 + j) % 32
  let t := (readByte vram (l.mapOffset + 32 * row + col)).toNat
  (List.range 8).foldl (paintTileRow vram l i j t) fb

/-- Draws one row of tiles, columns ascending (rule R453). -/
def paintTiles (vram : List Host.Cell) (l : Lcd) (margin : Nat) (fb : List (Nat × Shade)) (i : Nat) :
    List (Nat × Shade) :=
  (List.range (20 + margin)).foldl (paintTile vram l i) fb

/-- The framebuffer a render leaves, from all WHITE (rule R453). -/
def renderedFb (vram : List Host.Cell) (l : Lcd) (margin : Nat) : List (Nat × Shade) :=
  (List.range (18 + margin)).foldl (paintTiles vram l margin) []

/-- `render()` (rules R450, R452, R453). -/
def render (s : State) : State :=
  if s.lcd.flag 4 then s.setLcd { s.lcd with fb := renderedFb s.mem.vram s.lcd s.params.renderMargin }
  else s.log (.unimplemented .signedTileData)

/-- `lcd_read(k)` (rule R440). -/
def lcdRead (s : State) (k : Nat) : Except FatalError Byte :=
  match k with
  | 0 => .ok s.lcd.lcdc
  | 2 => .ok s.lcd.scy
  | 3 => .ok s.lcd.scx
  | 4 => .ok s.lcd.ly
  | 7 => .ok s.lcd.bgp
  | 8 => if s.params.extendedVariant then .ok s.lcd.obp0 else .error (.unimplemented (.lcdRead 8))
  | 9 => if s.params.extendedVariant then .ok s.lcd.obp1 else .error (.unimplemented (.lcdRead 9))
  | k => .error (.unimplemented (.lcdRead k))

/-- `lcd_write(k, v)` (rule R440). -/
def lcdWrite (s : State) (k : Nat) (v : Byte) : State :=
  match k with
  | 0 => s.setLcd { s.lcd with lcdc := v }
  | 2 => render (s.setLcd { s.lcd with scy := v })
  | 3 => render (s.setLcd { s.lcd with scx := v })
  | 4 => s.log (.unimplemented .lyWrite)
  | 7 => render (s.setLcd { s.lcd with bgp := v, bgTable := decodeBgp v })
  | 8 =>
    if s.params.extendedVariant then s.setLcd { s.lcd with obp0 := v, obp0Table := decodeObp v }
    else s.log (.unimplemented (.lcdWrite 8))
  | 9 =>
    if s.params.extendedVariant then s.setLcd { s.lcd with obp1 := v, obp1Table := decodeObp v }
    else s.log (.unimplemented (.lcdWrite 9))
  | k => s.log (.unimplemented (.lcdWrite k))

end Sys2Proof.Machine
end

