-- ==== Sys2Proof/Machine/Bus.lean ====
section
/-! DEFINITION. The address bus (rules R60 to R79) and the interrupt registers behind it (rules R410, R411). -/

namespace Sys2Proof.Machine

/-- The routes of rule R60. -/
inductive Route where
  | boot
  | cart
  | vram
  | wram
  | wramMirror
  | hram
  | lcd
  | irqFlags
  | irqEnable
  | joypad
  | bootLatch
  | unmapped
  deriving DecidableEq, Repr

/-- `route(a)`: "tries the cases below in order and takes the first that matches" (rule R60). -/
def route (m : Stores) (a : Word) : Route :=
  if a.toNat < 0x0100 ∧ m.bootEnabled = true then .boot
  else if a.toNat ≤ m.cartSize then .cart
  else if 0x8000 ≤ a.toNat ∧ a.toNat ≤ 0x9FFF then .vram
  else if 0xC000 ≤ a.toNat ∧ a.toNat ≤ 0xDFFF then .wram
  else if 0xE000 ≤ a.toNat ∧ a.toNat ≤ 0xFDFF then .wramMirror
  else if 0xFF80 ≤ a.toNat ∧ a.toNat ≤ 0xFFFE then .hram
  else if 0xFF40 ≤ a.toNat ∧ a.toNat ≤ 0xFF4F then .lcd
  else if a.toNat = 0xFF0F then .irqFlags
  else if a.toNat = 0xFFFF then .irqEnable
  else if a.toNat = 0xFF00 then .joypad
  else if a.toNat = 0xFF50 then .bootLatch
  else .unmapped

/-- The index of a source: its bit in IF and IE (rule R31). -/
def Source.index : Source → Nat
  | .vblank => 0
  | .stat => 1
  | .timer => 2
  | .serial => 3
  | .joypad => 4

/-- The sources, lowest index first. -/
def Source.all : List Source := [.vblank, .stat, .timer, .serial, .joypad]

/-- The vector address of a source (rule R31). -/
def Source.vector : Source → Word
  | .vblank => 0x0040
  | .stat => 0x0048
  | .timer => 0x0050
  | .serial => 0x0058
  | .joypad => 0x0060

/-- The pending counter of a source. -/
def Pending.count (p : Pending) : Source → Nat
  | .vblank => p.vblank
  | .stat => p.stat
  | .timer => p.timer
  | .serial => p.serial
  | .joypad => p.joypad

/-- The counters with one changed by `f`. -/
def Pending.modify (p : Pending) (i : Source) (f : Nat → Nat) : Pending :=
  match i with
  | .vblank => { p with vblank := f p.vblank }
  | .stat => { p with stat := f p.stat }
  | .timer => { p with timer := f p.timer }
  | .serial => { p with serial := f p.serial }
  | .joypad => { p with joypad := f p.joypad }

/-- The counters after a write of `v` to IF: "increment the pending counter for every bit set in the written value, once
per set bit"; bits 7..5 are ignored (rule R410). -/
def Pending.request (p : Pending) (v : Byte) : Pending where
  vblank := p.vblank + (v.getLsbD 0).toNat
  stat := p.stat + (v.getLsbD 1).toNat
  timer := p.timer + (v.getLsbD 2).toNat
  serial := p.serial + (v.getLsbD 3).toNat
  joypad := p.joypad + (v.getLsbD 4).toNat

/-- Puts an interrupt state in place. -/
def State.setIrq (s : State) (q : Irq) : State := { s with irq := q }

/-- Puts the stores in place. -/
def State.setMem (s : State) (m : Stores) : State := { s with mem := m }

/-- `if_read()`: bit `i` is `pending[i] > 0`, bits 7..5 are `IF_UNUSED` (rule R410). -/
def ifRead (s : State) : Byte :=
  s.params.ifUnused ++ BitVec.ofBool (decide (0 < s.irq.pending.joypad))
    ++ BitVec.ofBool (decide (0 < s.irq.pending.serial)) ++ BitVec.ofBool (decide (0 < s.irq.pending.timer))
    ++ BitVec.ofBool (decide (0 < s.irq.pending.stat)) ++ BitVec.ofBool (decide (0 < s.irq.pending.vblank))

/-- `read8(a)`: a byte or a fatal error, and no side effect (rules R61, R73). -/
def read8 (s : State) (a : Word) : Except FatalError Byte :=
  match route s.mem a with
  | .boot => .ok (readByte s.mem.boot a.toNat)
  | .cart => if a.toNat < s.mem.cartSize then .ok (readByte s.mem.cart a.toNat) else .error (.unmappedRead a)
  | .vram => .ok (readByte s.mem.vram (a.toNat - 0x8000))
  | .wram => .ok (readByte s.mem.wram (a.toNat - 0xC000))
  | .wramMirror => .ok (readByte s.mem.wram (a.toNat - 0xE000))
  | .hram => .ok (readByte s.mem.hram (a.toNat - 0xFF80))
  | .lcd => lcdRead s (a.toNat - 0xFF40)
  | .irqFlags => .ok (ifRead s)
  | .irqEnable => .ok s.irq.ie
  | .joypad => .ok s.params.joypadValue
  | .bootLatch => .error (.unmappedRead a)
  | .unmapped => .error (.unmappedRead a)

/-- `write8(a, v)`: changes state or logs an event; it never faults (rule R62). -/
def write8 (s : State) (a : Word) (v : Byte) : State :=
  match route s.mem a with
  | .boot => s.log (.unmappedWrite a v)
  | .cart => s.log (.unmappedWrite a v)
  | .vram => s.setMem { s.mem with vram := writeByte s.mem.vram (a.toNat - 0x8000) v }
  | .wram => s.setMem { s.mem with wram := writeByte s.mem.wram (a.toNat - 0xC000) v }
  | .wramMirror => s.setMem { s.mem with wram := writeByte s.mem.wram (a.toNat - 0xE000) v }
  | .hram => s.setMem { s.mem with hram := writeByte s.mem.hram (a.toNat - 0xFF80) v }
  | .lcd => lcdWrite s (a.toNat - 0xFF40) v
  | .irqFlags => s.setIrq { s.irq with pending := s.irq.pending.request v }
  | .irqEnable => s.setIrq { s.irq with ie := v }
  | .joypad => s.log (.unimplemented .joypadWrite)
  | .bootLatch => if v = 1 then s.setMem { s.mem with bootEnabled := false } else s
  | .unmapped => s.log (.unmappedWrite a v)

/-- `read16(a)`: two byte reads, "low byte first. If the first read raises an error, the second is not made"
(rule R74). -/
def read16 (s : State) (a : Word) : Except FatalError Word :=
  match read8 s a with
  | .error e => .error e
  | .ok lo =>
    match read8 s (a + 1) with
    | .error e => .error e
    | .ok hi => .ok (joinBytes hi lo)

/-- `write16(a, w)`: "two 8-bit writes in the order low byte, then high byte" (rule R75). -/
def write16 (s : State) (a : Word) (w : Word) : State :=
  write8 (write8 s a (loByte w)) (a + 1) (hiByte w)

end Sys2Proof.Machine
end

