-- ==== Sys2Proof/Machine/Operands.lean ====
section
/-! DEFINITION. The operand forms: register selectors, register pairs, conditions, the tables of rule R103, and the access
functions of rules R21 and R102. -/

namespace Sys2Proof.Machine

/-- The 3-bit selector, in its order: "B, C, D, E, H, L, MemoryAtHL, A" (rule R102). -/
inductive Sel where
  | b
  | c
  | d
  | e
  | h
  | l
  /-- Selector 6: "operate through memory at `HL`". -/
  | atHL
  | a
  deriving DecidableEq, Repr

/-- `p` as `rp` (rule R103). -/
inductive Pair where
  | bc
  | de
  | hl
  | sp
  deriving DecidableEq, Repr

/-- `p` as `rp2`, the pairs of PUSH and POP (rule R103). -/
inductive StackPair where
  | bc
  | de
  | hl
  | af
  deriving DecidableEq, Repr

/-- The condition codes (rule R340). -/
inductive Cond where
  | nz
  | z
  | nc
  | c
  deriving DecidableEq, Repr

/-- The indirect operands of LD A,(..) and LD (..),A: BC, DE, HL then incremented, HL then decremented
(rules R205 to R208, R215 to R218). -/
inductive Ptr where
  | bc
  | de
  | hlInc
  | hlDec
  deriving DecidableEq, Repr

/-- The direct addresses of LD A,(..) and LD (..),A: `nn`, `0xFF00 + n`, `0xFF00 + C` (rules R209 to R214). -/
inductive AbsAddr where
  | abs (nn : Word)
  | high (n : Byte)
  | highC
  deriving DecidableEq, Repr

/-- The `alu` operations (rule R103). -/
inductive Alu where
  | add
  | adc
  | sub
  | sbc
  | and
  | xor
  | or
  | cp
  deriving DecidableEq, Repr

/-- The one-byte accumulator rotates (rules R300 to R303). -/
inductive AccRot where
  | rlca
  | rrca
  | rla
  | rra
  deriving DecidableEq, Repr

/-- The CB rotates, shifts and SWAP, in the order of their `y` field (rule R103). -/
inductive CbRot where
  | rlc
  | rrc
  | rl
  | rr
  | sla
  | sra
  | swap
  | srl
  deriving DecidableEq, Repr

/-- A CB operation with its operands (rule R107). -/
inductive CbOp where
  | rot (op : CbRot) (r : Sel)
  | bit (n : Fin 8) (r : Sel)
  | res (n : Fin 8) (r : Sel)
  | set (n : Fin 8) (r : Sel)
  deriving DecidableEq, Repr

/-- F as a byte: Z, N, H, C in bits 7..4, "bits 3..0 read as 0 at all times" (rule R24). -/
def Flags.toByte (g : Flags) : Byte :=
  BitVec.ofBool g.z ++ BitVec.ofBool g.n ++ BitVec.ofBool g.h ++ BitVec.ofBool g.c ++ (0 : BitVec 4)

/-- F after a load of a byte, which "stores `v & 0xF0`": the flags are bits 7..4, bits 3..0 are discarded
(rules R24, R236). -/
def Flags.ofByte (v : Byte) : Flags where
  z := v.getLsbD 7
  n := v.getLsbD 6
  h := v.getLsbD 5
  c := v.getLsbD 4

/-- `R[F]` (rule R24). -/
def Regs.f (r : Regs) : Byte := r.flags.toByte

/-- `RP[BC]`: the first-named register of a pair is the high byte (rule R21). -/
def Regs.bc (r : Regs) : Word := joinBytes r.b r.c

/-- `RP[DE]` (rule R21). -/
def Regs.de (r : Regs) : Word := joinBytes r.d r.e

/-- `RP[HL]` (rule R21). -/
def Regs.hl (r : Regs) : Word := joinBytes r.h r.l

/-- `RP[AF]` (rule R21). -/
def Regs.af (r : Regs) : Word := joinBytes r.a r.f

/-- Puts a register file in place. -/
def State.setRegs (s : State) (r : Regs) : State := { s with regs := r }

/-- `RP[rr]` (rules R12, R21). -/
def Regs.pair (r : Regs) : Pair → Word
  | .bc => r.bc
  | .de => r.de
  | .hl => r.hl
  | .sp => r.sp

/-- `RP[rr] <- w` (rules R12, R21). -/
def Regs.setPair (r : Regs) (p : Pair) (w : Word) : Regs :=
  match p with
  | .bc => { r with b := hiByte w, c := loByte w }
  | .de => { r with d := hiByte w, e := loByte w }
  | .hl => { r with h := hiByte w, l := loByte w }
  | .sp => { r with sp := w }

/-- `RP[qq]` (rules R12, R21). -/
def Regs.stackPair (r : Regs) : StackPair → Word
  | .bc => r.bc
  | .de => r.de
  | .hl => r.hl
  | .af => r.af

/-- `RP[qq] <- w`; for AF, `R[F] <- w[7:0] & 0xF0` (rules R24, R235, R236). -/
def Regs.setStackPair (r : Regs) (p : StackPair) (w : Word) : Regs :=
  match p with
  | .bc => { r with b := hiByte w, c := loByte w }
  | .de => { r with d := hiByte w, e := loByte w }
  | .hl => { r with h := hiByte w, l := loByte w }
  | .af => { r with a := hiByte w, flags := Flags.ofByte (loByte w) }

/-- `get8(r)` (rule R102). -/
def get8 (s : State) : Sel → Except FatalError Byte
  | .b => .ok s.regs.b
  | .c => .ok s.regs.c
  | .d => .ok s.regs.d
  | .e => .ok s.regs.e
  | .h => .ok s.regs.h
  | .l => .ok s.regs.l
  | .atHL => read8 s s.regs.hl
  | .a => .ok s.regs.a

/-- `set8(r, v)` (rule R102). -/
def set8 (s : State) (r : Sel) (v : Byte) : State :=
  match r with
  | .b => s.setRegs { s.regs with b := v }
  | .c => s.setRegs { s.regs with c := v }
  | .d => s.setRegs { s.regs with d := v }
  | .e => s.setRegs { s.regs with e := v }
  | .h => s.setRegs { s.regs with h := v }
  | .l => s.setRegs { s.regs with l := v }
  | .atHL => write8 s s.regs.hl v
  | .a => s.setRegs { s.regs with a := v }

/-- The address of an indirect operand. -/
def Regs.ptr (r : Regs) : Ptr → Word
  | .bc => r.bc
  | .de => r.de
  | .hlInc => r.hl
  | .hlDec => r.hl

/-- The registers after an indirect access: HL one up or one down, mod 2^16 (rules R215 to R218). -/
def Regs.stepPtr (r : Regs) (p : Ptr) : Regs :=
  match p with
  | .bc => r
  | .de => r
  | .hlInc => r.setPair .hl (r.hl + 1)
  | .hlDec => r.setPair .hl (r.hl - 1)

/-- `0xFF00 + n`, `n` zero-extended (rule R104). -/
def highPage (n : Byte) : Word := 0xFF00 + zext16 n

/-- The address of a direct operand (rules R209 to R214). -/
def Regs.absAddr (r : Regs) : AbsAddr → Word
  | .abs nn => nn
  | .high n => highPage n
  | .highC => highPage r.c

end Sys2Proof.Machine
end

