-- ==== Sys2Proof/Machine/Flags.lean ====
section
/-! DEFINITION. The flags of F and every flag computation (rules R24 to R28, R250, R251, R272, R280, R283, R300 to R315,
R340). -/

namespace Sys2Proof.Machine

/-- `Z <- on`. -/
def Regs.setZ (r : Regs) (on : Bool) : Regs := { r with flags := { r.flags with z := on } }

/-- `N <- on`. -/
def Regs.setN (r : Regs) (on : Bool) : Regs := { r with flags := { r.flags with n := on } }

/-- `H <- on`. -/
def Regs.setH (r : Regs) (on : Bool) : Regs := { r with flags := { r.flags with h := on } }

/-- `C <- on`. -/
def Regs.setC (r : Regs) (on : Bool) : Regs := { r with flags := { r.flags with c := on } }

/-- `Z <- on` in the state. -/
def State.setZ (s : State) (on : Bool) : State := s.setRegs (s.regs.setZ on)

/-- `C <- on` in the state. -/
def State.setC (s : State) (on : Bool) : State := s.setRegs (s.regs.setC on)

/-- `HN(h, n)` (rule R27). Under `ZC_DRAW` H and N become the next two draws (log 5). -/
def State.setHN (s : State) (h n : Bool) : State :=
  match s.params.flagModel with
  | .full => s.setRegs ((s.regs.setH h).setN n)
  | .zcPreserve => s
  | .zcDraw =>
    { s with
      regs := (s.regs.setH (Config.freeFlag s.draws)).setN (Config.freeFlag (s.draws + 1))
      draws := s.draws + 2 }

/-- An 8-bit result with its half carry and carry. -/
structure Sum8 where
  res : Byte
  half : Bool
  carry : Bool
  deriving DecidableEq, Repr

/-- `add8(a, b, cin)` (rule R250). -/
def add8 (a b : Byte) (cin : Bool) : Sum8 where
  res := BitVec.ofNat 8 (a.toNat + b.toNat + cin.toNat)
  half := decide (0x0F < a.toNat % 16 + b.toNat % 16 + cin.toNat)
  carry := decide (0xFF < a.toNat + b.toNat + cin.toNat)

/-- `sub8(a, b, cin)` (rule R251): the difference mod 256, the borrow out of bit 3 and the borrow out of bit 7. -/
def sub8 (a b : Byte) (cin : Bool) : Sum8 where
  res := BitVec.ofInt 8 ((a.toNat : Int) - b.toNat - cin.toNat)
  half := decide (a.toNat % 16 < b.toNat % 16 + cin.toNat)
  carry := decide (a.toNat < b.toNat + cin.toNat)

/-- What an `alu` operation gives: the 8-bit result and the values of N, H and C (Z is the zero rule's). -/
structure AluResult where
  res : Byte
  n : Bool
  h : Bool
  c : Bool
  deriving DecidableEq, Repr

/-- The `alu` operations on A's value `a`, the operand `v` and the carry flag `cin` (rules R252 to R267). -/
def Alu.eval (op : Alu) (a v : Byte) (cin : Bool) : AluResult :=
  match op with
  | .add => let s := add8 a v false; { res := s.res, n := false, h := s.half, c := s.carry }
  | .adc => let s := add8 a v cin; { res := s.res, n := false, h := s.half, c := s.carry }
  | .sub => let s := sub8 a v false; { res := s.res, n := true, h := s.half, c := s.carry }
  | .sbc => let s := sub8 a v cin; { res := s.res, n := true, h := s.half, c := s.carry }
  | .and => { res := a &&& v, n := false, h := true, c := false }
  | .xor => { res := a ^^^ v, n := false, h := false, c := false }
  | .or => { res := a ||| v, n := false, h := false, c := false }
  | .cp => let s := sub8 a v false; { res := s.res, n := true, h := s.half, c := s.carry }

/-- Whether an `alu` operation writes its result to A: all do but CP, "A is unchanged" (rule R266). -/
def Alu.writesA : Alu → Bool
  | .cp => false
  | _ => true

/-- An `alu` operation on A with operand `v`: the result to A, setZ, C and HN (rules R252 to R267). -/
def applyAlu (s : State) (op : Alu) (v : Byte) : State :=
  let r := op.eval s.regs.a v s.regs.flags.c
  let s1 := if op.writesA then s.setRegs { s.regs with a := r.res } else s
  ((s1.setZ (decide (r.res = 0))).setC r.c).setHN r.h r.n

/-- The flags of INC: setZ and HN, "C is unaffected" (rules R268, R269). -/
def incFlags (s : State) (v : Byte) : State :=
  (s.setZ (decide (v + 1 = 0))).setHN (decide (v &&& 0x0F = 0x0F)) false

/-- The flags of DEC: setZ and HN, "C is unaffected" (rules R270, R271). -/
def decFlags (s : State) (v : Byte) : State :=
  (s.setZ (decide (v - 1 = 0))).setHN (decide (v &&& 0x0F = 0x00)) true

/-- A result and the bit shifted out of it. -/
structure Shifted where
  res : Byte
  out : Bool
  deriving DecidableEq, Repr

/-- `{v[6:0], cin}` and the bit shifted out, `v[7]` (rule R28). -/
def shiftLeft (v : Byte) (cin : Bool) : Shifted where
  res := v.extractLsb' 0 7 ++ BitVec.ofBool cin
  out := v.getLsbD 7

/-- `{cin, v[7:1]}` and the bit shifted out, `v[0]` (rule R28). -/
def shiftRight (v : Byte) (cin : Bool) : Shifted where
  res := BitVec.ofBool cin ++ v.extractLsb' 1 7
  out := v.getLsbD 0

/-- The accumulator rotates on the value `v` and the carry flag (rules R300 to R303). -/
def AccRot.eval (op : AccRot) (v : Byte) (cin : Bool) : Shifted :=
  match op with
  | .rlca => shiftLeft v (v.getLsbD 7)
  | .rrca => shiftRight v (v.getLsbD 0)
  | .rla => shiftLeft v cin
  | .rra => shiftRight v cin

/-- `accZ(res)`: Z after an accumulator rotate, by `ACC_ROTATE_Z`. -/
def accZ (p : Params) (res : Byte) : Bool :=
  match p.accRotateZ with
  | .clear => false
  | .zeroRule => decide (res = 0)

/-- The CB rotates, shifts and SWAP on the value `v` and the carry flag (rules R305 to R312); SWAP clears C. -/
def CbRot.eval (op : CbRot) (v : Byte) (cin : Bool) : Shifted :=
  match op with
  | .rlc => shiftLeft v (v.getLsbD 7)
  | .rrc => shiftRight v (v.getLsbD 0)
  | .rl => shiftLeft v cin
  | .rr => shiftRight v cin
  | .sla => shiftLeft v false
  | .sra => shiftRight v (v.getLsbD 7)
  | .swap => { res := v.extractLsb' 0 4 ++ v.extractLsb' 4 4, out := false }
  | .srl => shiftRight v false

/-- `1 << b` in a byte. -/
def bitMask (b : Fin 8) : Byte := (1 : Byte) <<< b.val

/-- DAA's adjustment of A under `FULL` (rule R272): the new A and the new C. -/
def daaAdjust (a : Byte) (n h c : Bool) : Byte × Bool :=
  if n = false then
    let high := c || decide (0x99 < a.toNat)
    let a1 := if high then a + 0x60 else a
    let a2 := if h || decide (9 < a1.toNat % 16) then a1 + 0x06 else a1
    (a2, high)
  else
    let a1 := if c then a - 0x60 else a
    let a2 := if h then a1 - 0x06 else a1
    (a2, c)

/-- A 16-bit result with its half carry and carry. -/
structure Sum16 where
  res : Word
  half : Bool
  carry : Bool
  deriving DecidableEq, Repr

/-- The 16-bit add of ADD HL,rr: carries out of bits 11 and 15 (rule R280). -/
def add16 (a b : Word) : Sum16 where
  res := a + b
  half := decide (0x0FFF < a.toNat % 0x1000 + b.toNat % 0x1000)
  carry := decide (0xFFFF < a.toNat + b.toNat)

/-- `sp_plus(e)`: SP plus the signed displacement, the carries out of bits 3 and 7 of the unsigned add of the low bytes
(rule R283). -/
def spPlus (sp : Word) (e : Byte) : Sum16 where
  res := sp + sext16 e
  half := decide (0x0F < sp.toNat % 16 + e.toNat % 16)
  carry := decide (0xFF < sp.toNat % 256 + e.toNat)

/-- `cond(cc)` (rule R340). -/
def Regs.holds (r : Regs) : Cond → Bool
  | .nz => !r.flags.z
  | .z => r.flags.z
  | .nc => !r.flags.c
  | .c => r.flags.c

end Sys2Proof.Machine
end

