-- ==== Sys2Proof/Machine/Timing.lean ====
section
/-! DEFINITION. The cycle costs of rules R520 to R523: no rule of the model depends on them but the counter `cycles`. -/

namespace Sys2Proof.Machine

/-- Row 0x of the table of rule R520: (taken, not taken), an illegal byte and the prefix at 0. -/
def cycleRow0 : List (Nat × Nat) :=
  [
    (4, 4), (12, 12), (8, 8), (8, 8), (4, 4), (4, 4), (8, 8), (4, 4), (20, 20), (8, 8), (8, 8), (8, 8), (4, 4),
    (4, 4), (8, 8), (4, 4) ]

/-- Row 1x of the table of rule R520: (taken, not taken), an illegal byte and the prefix at 0. -/
def cycleRow1 : List (Nat × Nat) :=
  [
    (4, 4), (12, 12), (8, 8), (8, 8), (4, 4), (4, 4), (8, 8), (4, 4), (12, 12), (8, 8), (8, 8), (8, 8), (4, 4),
    (4, 4), (8, 8), (4, 4) ]

/-- Row 2x of the table of rule R520: (taken, not taken), an illegal byte and the prefix at 0. -/
def cycleRow2 : List (Nat × Nat) :=
  [
    (12, 8), (12, 12), (8, 8), (8, 8), (4, 4), (4, 4), (8, 8), (4, 4), (12, 8), (8, 8), (8, 8), (8, 8), (4, 4),
    (4, 4), (8, 8), (4, 4) ]

/-- Row 3x of the table of rule R520: (taken, not taken), an illegal byte and the prefix at 0. -/
def cycleRow3 : List (Nat × Nat) :=
  [
    (12, 8), (12, 12), (8, 8), (8, 8), (12, 12), (12, 12), (12, 12), (4, 4), (12, 8), (8, 8), (8, 8), (8, 8),
    (4, 4), (4, 4), (8, 8), (4, 4) ]

/-- Row 4x of the table of rule R520: (taken, not taken), an illegal byte and the prefix at 0. -/
def cycleRow4 : List (Nat × Nat) :=
  [
    (4, 4), (4, 4), (4, 4), (4, 4), (4, 4), (4, 4), (8, 8), (4, 4), (4, 4), (4, 4), (4, 4), (4, 4), (4, 4), (4, 4),
    (8, 8), (4, 4) ]

/-- Row 5x of the table of rule R520: (taken, not taken), an illegal byte and the prefix at 0. -/
def cycleRow5 : List (Nat × Nat) :=
  [
    (4, 4), (4, 4), (4, 4), (4, 4), (4, 4), (4, 4), (8, 8), (4, 4), (4, 4), (4, 4), (4, 4), (4, 4), (4, 4), (4, 4),
    (8, 8), (4, 4) ]

/-- Row 6x of the table of rule R520: (taken, not taken), an illegal byte and the prefix at 0. -/
def cycleRow6 : List (Nat × Nat) :=
  [
    (4, 4), (4, 4), (4, 4), (4, 4), (4, 4), (4, 4), (8, 8), (4, 4), (4, 4), (4, 4), (4, 4), (4, 4), (4, 4), (4, 4),
    (8, 8), (4, 4) ]

/-- Row 7x of the table of rule R520: (taken, not taken), an illegal byte and the prefix at 0. -/
def cycleRow7 : List (Nat × Nat) :=
  [
    (8, 8), (8, 8), (8, 8), (8, 8), (8, 8), (8, 8), (4, 4), (8, 8), (4, 4), (4, 4), (4, 4), (4, 4), (4, 4), (4, 4),
    (8, 8), (4, 4) ]

/-- Row 8x of the table of rule R520: (taken, not taken), an illegal byte and the prefix at 0. -/
def cycleRow8 : List (Nat × Nat) :=
  [
    (4, 4), (4, 4), (4, 4), (4, 4), (4, 4), (4, 4), (8, 8), (4, 4), (4, 4), (4, 4), (4, 4), (4, 4), (4, 4), (4, 4),
    (8, 8), (4, 4) ]

/-- Row 9x of the table of rule R520: (taken, not taken), an illegal byte and the prefix at 0. -/
def cycleRow9 : List (Nat × Nat) :=
  [
    (4, 4), (4, 4), (4, 4), (4, 4), (4, 4), (4, 4), (8, 8), (4, 4), (4, 4), (4, 4), (4, 4), (4, 4), (4, 4), (4, 4),
    (8, 8), (4, 4) ]

/-- Row Ax of the table of rule R520: (taken, not taken), an illegal byte and the prefix at 0. -/
def cycleRowA : List (Nat × Nat) :=
  [
    (4, 4), (4, 4), (4, 4), (4, 4), (4, 4), (4, 4), (8, 8), (4, 4), (4, 4), (4, 4), (4, 4), (4, 4), (4, 4), (4, 4),
    (8, 8), (4, 4) ]

/-- Row Bx of the table of rule R520: (taken, not taken), an illegal byte and the prefix at 0. -/
def cycleRowB : List (Nat × Nat) :=
  [
    (4, 4), (4, 4), (4, 4), (4, 4), (4, 4), (4, 4), (8, 8), (4, 4), (4, 4), (4, 4), (4, 4), (4, 4), (4, 4), (4, 4),
    (8, 8), (4, 4) ]

/-- Row Cx of the table of rule R520: (taken, not taken), an illegal byte and the prefix at 0. -/
def cycleRowC : List (Nat × Nat) :=
  [
    (20, 8), (12, 12), (16, 12), (16, 16), (24, 12), (16, 16), (8, 8), (16, 16), (20, 8), (16, 16), (16, 12),
    (0, 0), (24, 12), (24, 24), (8, 8), (16, 16) ]

/-- Row Dx of the table of rule R520: (taken, not taken), an illegal byte and the prefix at 0. -/
def cycleRowD : List (Nat × Nat) :=
  [
    (20, 8), (12, 12), (16, 12), (0, 0), (24, 12), (16, 16), (8, 8), (16, 16), (20, 8), (16, 16), (16, 12), (0, 0),
    (24, 12), (0, 0), (8, 8), (16, 16) ]

/-- Row Ex of the table of rule R520: (taken, not taken), an illegal byte and the prefix at 0. -/
def cycleRowE : List (Nat × Nat) :=
  [
    (12, 12), (12, 12), (8, 8), (0, 0), (0, 0), (16, 16), (8, 8), (16, 16), (16, 16), (4, 4), (16, 16), (0, 0),
    (0, 0), (0, 0), (8, 8), (16, 16) ]

/-- Row Fx of the table of rule R520: (taken, not taken), an illegal byte and the prefix at 0. -/
def cycleRowF : List (Nat × Nat) :=
  [
    (12, 12), (12, 12), (8, 8), (4, 4), (0, 0), (16, 16), (8, 8), (16, 16), (12, 12), (8, 8), (16, 16), (4, 4),
    (0, 0), (0, 0), (8, 8), (16, 16) ]

/-- The table of rule R520 for a base opcode: (taken, not taken). -/
def baseCycles (op : Byte) : Nat × Nat :=
  let row :=
    match op.toNat / 16 with
    | 0 => cycleRow0
    | 1 => cycleRow1
    | 2 => cycleRow2
    | 3 => cycleRow3
    | 4 => cycleRow4
    | 5 => cycleRow5
    | 6 => cycleRow6
    | 7 => cycleRow7
    | 8 => cycleRow8
    | 9 => cycleRow9
    | 10 => cycleRowA
    | 11 => cycleRowB
    | 12 => cycleRowC
    | 13 => cycleRowD
    | 14 => cycleRowE
    | _ => cycleRowF
  row.getD (op.toNat % 16) (0, 0)

/-- The default costs: the table of rule R520, and for a sub-opcode "8 for a register operand (sub[2:0] ≠ 6) and 12 for
`(HL)`" (rule R521). -/
def defaultCycles : OpKey → Nat × Nat
  | .base op => baseCycles op
  | .cb sub => if sub.toNat % 8 = 6 then (12, 12) else (8, 8)

/-- `CYCLES(op, taken)`: the parameter's cell for the opcode if it has one, else the default (rules R8, R522). -/
def cyclesOf (p : Params) (k : OpKey) (taken : Bool) : Nat :=
  match p.cycles.find? (fun entry => decide (entry.key = k)) with
  | some entry => if taken then entry.taken else entry.notTaken
  | none => if taken then (defaultCycles k).1 else (defaultCycles k).2

end Sys2Proof.Machine
end

