-- ==== Sys2Proof/Machine/Ops.lean ====
section
/-! DEFINITION. The shared operations of a step: raising a fatal error, ending an instruction, the stack, taking an
interrupt and returning from one (rules R105, R110, R401, R412 to R417). -/

namespace Sys2Proof.Machine

/-- What a step or an instruction answers. -/
abbrev Result := Host.Outcome State Fault Refusal

/-- `raise E`: "sets `fatal` to that error", the rest of the state as the step had reached it (rules R401, R402, log 1). -/
def State.raise (s : State) (e : FatalError) : State := { s with fatal := some e }

/-- Goes on with the value of a read, or ends the step with its fatal error (rule R401). -/
def attempt {α : Type} (s : State) (r : Except FatalError α) (k : α → Result) : Result :=
  match r with
  | .ok v => k v
  | .error e => .next (s.raise e)

/-- `PC <- w`. -/
def State.setPc (s : State) (w : Word) : State := s.setRegs { s.regs with pc := w }

/-- `SP <- w`. -/
def State.setSp (s : State) (w : Word) : State := s.setRegs { s.regs with sp := w }

/-- `IME <- on`. -/
def State.setIme (s : State) (on : Bool) : State := s.setIrq { s.irq with ime := on }

/-- `halted <- on`. -/
def State.setHalted (s : State) (on : Bool) : State := { s with halted := on }

/-- `cycles <- cycles + n`. -/
def State.addCycles (s : State) (n : Nat) : State := { s with cycles := s.cycles + n }

/-- Steps (e) and (f) of rule R110 for an instruction that did not set PC: PC past its bytes, its cost added. -/
def advance (s : State) (k : OpKey) (taken : Bool) : State :=
  (s.setPc (s.regs.pc + BitVec.ofNat 16 k.length)).addCycles (cyclesOf s.params k taken)

/-- Ends an unconditional instruction that did not set PC. -/
def finish (s : State) (k : OpKey) : Result := .next (advance s k true)

/-- Ends a conditional instruction whose condition fails: its full length and its not-taken cost (rules R111, R340). -/
def skip (s : State) (k : OpKey) : Result := .next (advance s k false)

/-- `pc <- t` and steps (e) and (f): PC as set, the taken cost (rules R12, R110). -/
def jump (s : State) (k : OpKey) (t : Word) : Result :=
  .next ((s.setPc t).addCycles (cyclesOf s.params k true))

/-- `push16(w)`: "decrement-then-write" (rule R105). -/
def push16 (s : State) (w : Word) : State :=
  write16 (s.setSp (s.regs.sp - 2)) (s.regs.sp - 2) w

/-- `pop16()`: "read-then-increment"; on a fatal error SP is not incremented (rule R105). -/
def pop16 (s : State) (k : State → Word → Result) : Result :=
  attempt s (read16 s s.regs.sp) fun w => k (s.setSp (s.regs.sp + 2)) w

/-- Whether a request of source `i` is waiting and not masked: `pending[i] > 0` and its IE bit, unless `IE_GATES` is false
(rules R412, R415). -/
def eligible (s : State) (i : Source) : Bool :=
  decide (0 < s.irq.pending.count i) && (!s.params.ieGates || s.irq.ie.getLsbD i.index)

/-- `wake()`: some request is waiting and not masked (rules R361, R415). -/
def wake (s : State) : Bool := Source.all.any (eligible s)

/-- `dispatch(k)`, taking an interrupt: push PC, clear IME, PC to the vector, leave HALT, add the cost (rule R414). -/
def dispatch (s : State) (k : Source) : State :=
  ((((push16 s s.regs.pc).setIme false).setPc k.vector).setHalted false).addCycles s.params.dispatchCycles

/-- The return from an interrupt that RETI makes: `pc <- pop16(); IME <- true`, with RETI's cost (rule R350). -/
def returnFromInterrupt (s : State) (k : OpKey) : Result :=
  pop16 s fun s' w => jump (s'.setIme true) k w

/-- `pending[i] <- pending[i] - 1`. -/
def consume (s : State) (i : Source) : State :=
  s.setIrq { s.irq with pending := s.irq.pending.modify i (fun n => n - 1) }

/-- `deliver()` (rules R412, R413): with `ime_prev` and an eligible source, the counters that `DELIVERY` names go down by
one and the lowest-numbered eligible source is dispatched. -/
def deliver (s : State) : State :=
  if s.irq.imePrev then
    match Source.all.filter (eligible s) with
    | [] => s
    | k :: rest =>
      match s.params.delivery with
      | .onePerStep => dispatch (consume s k) k
      | .consumeAll => dispatch ((k :: rest).foldl consume s) k
  else s

/-- The start of a step: an empty event list, (a) delivery, (b) `ime_prev <- IME` (rule R110). -/
def interruptPhase (s : State) : State :=
  let s1 := deliver { s with events := [] }
  s1.setIrq { s1.irq with imePrev := s1.irq.ime }

/-- Step (h) of rule R110: the CPU stays halted, since nothing wakes it (rule R415). -/
def idles (s : State) : Bool := s.halted && !wake s

/-- A halted idle step's end: only `CYCLES(HALT_IDLE)` is added (rule R415). -/
def idle (s : State) : State := s.addCycles s.params.haltIdle

/-- The state from which a step fetches: after (a), (b) and (h), the CPU awake (rule R110). -/
def readyState (s : State) : State := (interruptPhase s).setHalted false

end Sys2Proof.Machine
end

