-- ==== Sys2Proof/Machine/Alu16.lean ====
section
/-! DEFINITION. The 16-bit arithmetic (rules R280 to R283): the shared operations, then one meaning per instruction. -/

namespace Sys2Proof.Machine

/-- ADD HL,rr: "Z is unaffected, even when the result is 0" (rule R280). -/
def addHl (k : OpKey) (p : Pair) (s : State) : Result :=
  let r := add16 s.regs.hl (s.regs.pair p)
  finish (((s.setRegs (s.regs.setPair .hl r.res)).setC r.carry).setHN r.half false) k

/-- INC rr, no flag (rule R281). -/
def incPair (k : OpKey) (p : Pair) (s : State) : Result :=
  finish (s.setRegs (s.regs.setPair p (s.regs.pair p + 1))) k

/-- DEC rr, no flag (rule R282). -/
def decPair (k : OpKey) (p : Pair) (s : State) : Result :=
  finish (s.setRegs (s.regs.setPair p (s.regs.pair p - 1))) k

/-- ADD SP,e: "Z is written 0 whatever the result" (rule R283). -/
def addSp (k : OpKey) (e : Byte) (s : State) : Result :=
  let r := spPlus s.regs.sp e
  finish ((((s.setSp r.res).setZ false).setC r.carry).setHN r.half false) k

/-- INC BC (rule R281). -/
def execIncBC (s : State) : Result := incPair (.base 0x03) .bc s

/-- ADD HL,BC (rule R280). -/
def execAddHLBC (s : State) : Result := addHl (.base 0x09) .bc s

/-- DEC BC (rule R282). -/
def execDecBC (s : State) : Result := decPair (.base 0x0B) .bc s

/-- INC DE (rule R281). -/
def execIncDE (s : State) : Result := incPair (.base 0x13) .de s

/-- ADD HL,DE (rule R280). -/
def execAddHLDE (s : State) : Result := addHl (.base 0x19) .de s

/-- DEC DE (rule R282). -/
def execDecDE (s : State) : Result := decPair (.base 0x1B) .de s

/-- INC HL (rule R281). -/
def execIncHL (s : State) : Result := incPair (.base 0x23) .hl s

/-- ADD HL,HL (rule R280). -/
def execAddHLHL (s : State) : Result := addHl (.base 0x29) .hl s

/-- DEC HL (rule R282). -/
def execDecHL (s : State) : Result := decPair (.base 0x2B) .hl s

/-- INC SP (rule R281). -/
def execIncSP (s : State) : Result := incPair (.base 0x33) .sp s

/-- ADD HL,SP (rule R280). -/
def execAddHLSP (s : State) : Result := addHl (.base 0x39) .sp s

/-- DEC SP (rule R282). -/
def execDecSP (s : State) : Result := decPair (.base 0x3B) .sp s

/-- ADD SP,e (rule R283). -/
def execAddSPDisp (e : Byte) (s : State) : Result := addSp (.base 0xE8) e s

end Sys2Proof.Machine
end

