-- ==== Sys2Proof/Machine/Alu8.lean ====
section
/-! DEFINITION. The 8-bit arithmetic and logic (rules R252 to R275): the shared operations, then one meaning per
instruction. -/

namespace Sys2Proof.Machine

/-- An `alu` operation on A and a selector (rules R252, R254, R256, R258, R260, R262, R264, R266). -/
def aluSel (k : OpKey) (op : Alu) (src : Sel) (s : State) : Result :=
  attempt s (get8 s src) fun v => finish (applyAlu s op v) k

/-- An `alu` operation on A and an immediate (rules R253, R255, R257, R259, R261, R263, R265, R267). -/
def aluImm (k : OpKey) (op : Alu) (n : Byte) (s : State) : Result := finish (applyAlu s op n) k

/-- INC r and INC (HL): the read, the write, the flags (rules R268, R269). -/
def incSel (k : OpKey) (r : Sel) (s : State) : Result :=
  attempt s (get8 s r) fun v => finish (incFlags (set8 s r (v + 1)) v) k

/-- DEC r and DEC (HL) (rules R270, R271). -/
def decSel (k : OpKey) (r : Sel) (s : State) : Result :=
  attempt s (get8 s r) fun v => finish (decFlags (set8 s r (v - 1)) v) k

/-- DAA: under `FULL` the adjustment, setZ, H cleared, N unchanged, C; under the other flag models a fatal
UnimplementedFeatureError "raised before any state changes" (rule R272). -/
def adjustA (k : OpKey) (s : State) : Result :=
  match s.params.flagModel with
  | .full =>
    let r := daaAdjust s.regs.a s.regs.flags.n s.regs.flags.h s.regs.flags.c
    let g : Regs := { s.regs with a := r.1 }
    finish (s.setRegs (((g.setZ (decide (r.1 = 0))).setH false).setC r.2)) k
  | _ => .next (s.raise (.unimplemented .daa))

/-- CPL: `R[A] <- ~R[A]`; HN(1, 1) (rule R273). -/
def complementA (k : OpKey) (s : State) : Result :=
  finish ((s.setRegs { s.regs with a := ~~~s.regs.a }).setHN true true) k

/-- SCF: `C <- 1`; HN(0, 0) (rule R274). -/
def setCarry (k : OpKey) (s : State) : Result := finish ((s.setC true).setHN false false) k

/-- CCF: `C <- 1 - C`; HN(0, 0) (rule R275). -/
def complementCarry (k : OpKey) (s : State) : Result := finish ((s.setC (!s.regs.flags.c)).setHN false false) k

/-- INC B (rule R268). -/
def execIncB (s : State) : Result := incSel (.base 0x04) .b s

/-- DEC B (rule R270). -/
def execDecB (s : State) : Result := decSel (.base 0x05) .b s

/-- INC C (rule R268). -/
def execIncC (s : State) : Result := incSel (.base 0x0C) .c s

/-- DEC C (rule R270). -/
def execDecC (s : State) : Result := decSel (.base 0x0D) .c s

/-- INC D (rule R268). -/
def execIncD (s : State) : Result := incSel (.base 0x14) .d s

/-- DEC D (rule R270). -/
def execDecD (s : State) : Result := decSel (.base 0x15) .d s

/-- INC E (rule R268). -/
def execIncE (s : State) : Result := incSel (.base 0x1C) .e s

/-- DEC E (rule R270). -/
def execDecE (s : State) : Result := decSel (.base 0x1D) .e s

/-- INC H (rule R268). -/
def execIncH (s : State) : Result := incSel (.base 0x24) .h s

/-- DEC H (rule R270). -/
def execDecH (s : State) : Result := decSel (.base 0x25) .h s

/-- DAA (rule R272). -/
def execDaa (s : State) : Result := adjustA (.base 0x27) s

/-- INC L (rule R268). -/
def execIncL (s : State) : Result := incSel (.base 0x2C) .l s

/-- DEC L (rule R270). -/
def execDecL (s : State) : Result := decSel (.base 0x2D) .l s

/-- CPL (rule R273). -/
def execCpl (s : State) : Result := complementA (.base 0x2F) s

/-- INC (HL) (rule R269). -/
def execIncAtHL (s : State) : Result := incSel (.base 0x34) .atHL s

/-- DEC (HL) (rule R271). -/
def execDecAtHL (s : State) : Result := decSel (.base 0x35) .atHL s

/-- SCF (rule R274). -/
def execScf (s : State) : Result := setCarry (.base 0x37) s

/-- INC A (rule R268). -/
def execIncA (s : State) : Result := incSel (.base 0x3C) .a s

/-- DEC A (rule R270). -/
def execDecA (s : State) : Result := decSel (.base 0x3D) .a s

/-- CCF (rule R275). -/
def execCcf (s : State) : Result := complementCarry (.base 0x3F) s

/-- ADD A,B (rule R252). -/
def execAddAB (s : State) : Result := aluSel (.base 0x80) .add .b s

/-- ADD A,C (rule R252). -/
def execAddAC (s : State) : Result := aluSel (.base 0x81) .add .c s

/-- ADD A,D (rule R252). -/
def execAddAD (s : State) : Result := aluSel (.base 0x82) .add .d s

/-- ADD A,E (rule R252). -/
def execAddAE (s : State) : Result := aluSel (.base 0x83) .add .e s

/-- ADD A,H (rule R252). -/
def execAddAH (s : State) : Result := aluSel (.base 0x84) .add .h s

/-- ADD A,L (rule R252). -/
def execAddAL (s : State) : Result := aluSel (.base 0x85) .add .l s

/-- ADD A,(HL) (rule R252). -/
def execAddAAtHL (s : State) : Result := aluSel (.base 0x86) .add .atHL s

/-- ADD A,A (rule R252). -/
def execAddAA (s : State) : Result := aluSel (.base 0x87) .add .a s

/-- ADC A,B (rule R254). -/
def execAdcAB (s : State) : Result := aluSel (.base 0x88) .adc .b s

/-- ADC A,C (rule R254). -/
def execAdcAC (s : State) : Result := aluSel (.base 0x89) .adc .c s

/-- ADC A,D (rule R254). -/
def execAdcAD (s : State) : Result := aluSel (.base 0x8A) .adc .d s

/-- ADC A,E (rule R254). -/
def execAdcAE (s : State) : Result := aluSel (.base 0x8B) .adc .e s

/-- ADC A,H (rule R254). -/
def execAdcAH (s : State) : Result := aluSel (.base 0x8C) .adc .h s

/-- ADC A,L (rule R254). -/
def execAdcAL (s : State) : Result := aluSel (.base 0x8D) .adc .l s

/-- ADC A,(HL) (rule R254). -/
def execAdcAAtHL (s : State) : Result := aluSel (.base 0x8E) .adc .atHL s

/-- ADC A,A (rule R254). -/
def execAdcAA (s : State) : Result := aluSel (.base 0x8F) .adc .a s

/-- SUB B (rule R256). -/
def execSubB (s : State) : Result := aluSel (.base 0x90) .sub .b s

/-- SUB C (rule R256). -/
def execSubC (s : State) : Result := aluSel (.base 0x91) .sub .c s

/-- SUB D (rule R256). -/
def execSubD (s : State) : Result := aluSel (.base 0x92) .sub .d s

/-- SUB E (rule R256). -/
def execSubE (s : State) : Result := aluSel (.base 0x93) .sub .e s

/-- SUB H (rule R256). -/
def execSubH (s : State) : Result := aluSel (.base 0x94) .sub .h s

/-- SUB L (rule R256). -/
def execSubL (s : State) : Result := aluSel (.base 0x95) .sub .l s

/-- SUB (HL) (rule R256). -/
def execSubAtHL (s : State) : Result := aluSel (.base 0x96) .sub .atHL s

/-- SUB A (rule R256). -/
def execSubA (s : State) : Result := aluSel (.base 0x97) .sub .a s

/-- SBC A,B (rule R258). -/
def execSbcAB (s : State) : Result := aluSel (.base 0x98) .sbc .b s

/-- SBC A,C (rule R258). -/
def execSbcAC (s : State) : Result := aluSel (.base 0x99) .sbc .c s

/-- SBC A,D (rule R258). -/
def execSbcAD (s : State) : Result := aluSel (.base 0x9A) .sbc .d s

/-- SBC A,E (rule R258). -/
def execSbcAE (s : State) : Result := aluSel (.base 0x9B) .sbc .e s

/-- SBC A,H (rule R258). -/
def execSbcAH (s : State) : Result := aluSel (.base 0x9C) .sbc .h s

/-- SBC A,L (rule R258). -/
def execSbcAL (s : State) : Result := aluSel (.base 0x9D) .sbc .l s

/-- SBC A,(HL) (rule R258). -/
def execSbcAAtHL (s : State) : Result := aluSel (.base 0x9E) .sbc .atHL s

/-- SBC A,A (rule R258). -/
def execSbcAA (s : State) : Result := aluSel (.base 0x9F) .sbc .a s

/-- AND B (rule R260). -/
def execAndB (s : State) : Result := aluSel (.base 0xA0) .and .b s

/-- AND C (rule R260). -/
def execAndC (s : State) : Result := aluSel (.base 0xA1) .and .c s

/-- AND D (rule R260). -/
def execAndD (s : State) : Result := aluSel (.base 0xA2) .and .d s

/-- AND E (rule R260). -/
def execAndE (s : State) : Result := aluSel (.base 0xA3) .and .e s

/-- AND H (rule R260). -/
def execAndH (s : State) : Result := aluSel (.base 0xA4) .and .h s

/-- AND L (rule R260). -/
def execAndL (s : State) : Result := aluSel (.base 0xA5) .and .l s

/-- AND (HL) (rule R260). -/
def execAndAtHL (s : State) : Result := aluSel (.base 0xA6) .and .atHL s

/-- AND A (rule R260). -/
def execAndA (s : State) : Result := aluSel (.base 0xA7) .and .a s

/-- XOR B (rule R262). -/
def execXorB (s : State) : Result := aluSel (.base 0xA8) .xor .b s

/-- XOR C (rule R262). -/
def execXorC (s : State) : Result := aluSel (.base 0xA9) .xor .c s

/-- XOR D (rule R262). -/
def execXorD (s : State) : Result := aluSel (.base 0xAA) .xor .d s

/-- XOR E (rule R262). -/
def execXorE (s : State) : Result := aluSel (.base 0xAB) .xor .e s

/-- XOR H (rule R262). -/
def execXorH (s : State) : Result := aluSel (.base 0xAC) .xor .h s

/-- XOR L (rule R262). -/
def execXorL (s : State) : Result := aluSel (.base 0xAD) .xor .l s

/-- XOR (HL) (rule R262). -/
def execXorAtHL (s : State) : Result := aluSel (.base 0xAE) .xor .atHL s

/-- XOR A (rule R262). -/
def execXorA (s : State) : Result := aluSel (.base 0xAF) .xor .a s

/-- OR B (rule R264). -/
def execOrB (s : State) : Result := aluSel (.base 0xB0) .or .b s

/-- OR C (rule R264). -/
def execOrC (s : State) : Result := aluSel (.base 0xB1) .or .c s

/-- OR D (rule R264). -/
def execOrD (s : State) : Result := aluSel (.base 0xB2) .or .d s

/-- OR E (rule R264). -/
def execOrE (s : State) : Result := aluSel (.base 0xB3) .or .e s

/-- OR H (rule R264). -/
def execOrH (s : State) : Result := aluSel (.base 0xB4) .or .h s

/-- OR L (rule R264). -/
def execOrL (s : State) : Result := aluSel (.base 0xB5) .or .l s

/-- OR (HL) (rule R264). -/
def execOrAtHL (s : State) : Result := aluSel (.base 0xB6) .or .atHL s

/-- OR A (rule R264). -/
def execOrA (s : State) : Result := aluSel (.base 0xB7) .or .a s

/-- CP B (rule R266). -/
def execCpB (s : State) : Result := aluSel (.base 0xB8) .cp .b s

/-- CP C (rule R266). -/
def execCpC (s : State) : Result := aluSel (.base 0xB9) .cp .c s

/-- CP D (rule R266). -/
def execCpD (s : State) : Result := aluSel (.base 0xBA) .cp .d s

/-- CP E (rule R266). -/
def execCpE (s : State) : Result := aluSel (.base 0xBB) .cp .e s

/-- CP H (rule R266). -/
def execCpH (s : State) : Result := aluSel (.base 0xBC) .cp .h s

/-- CP L (rule R266). -/
def execCpL (s : State) : Result := aluSel (.base 0xBD) .cp .l s

/-- CP (HL) (rule R266). -/
def execCpAtHL (s : State) : Result := aluSel (.base 0xBE) .cp .atHL s

/-- CP A (rule R266). -/
def execCpA (s : State) : Result := aluSel (.base 0xBF) .cp .a s

/-- ADD A,n (rule R253). -/
def execAddAImm (n : Byte) (s : State) : Result := aluImm (.base 0xC6) .add n s

/-- ADC A,n (rule R255). -/
def execAdcAImm (n : Byte) (s : State) : Result := aluImm (.base 0xCE) .adc n s

/-- SUB n (rule R257). -/
def execSubImm (n : Byte) (s : State) : Result := aluImm (.base 0xD6) .sub n s

/-- SBC A,n (rule R259). -/
def execSbcAImm (n : Byte) (s : State) : Result := aluImm (.base 0xDE) .sbc n s

/-- AND n (rule R261). -/
def execAndImm (n : Byte) (s : State) : Result := aluImm (.base 0xE6) .and n s

/-- XOR n (rule R263). -/
def execXorImm (n : Byte) (s : State) : Result := aluImm (.base 0xEE) .xor n s

/-- OR n (rule R265). -/
def execOrImm (n : Byte) (s : State) : Result := aluImm (.base 0xF6) .or n s

/-- CP n (rule R267). -/
def execCpImm (n : Byte) (s : State) : Result := aluImm (.base 0xFE) .cp n s

end Sys2Proof.Machine
end

