-- ==== Sys2Proof/Machine/Control.lean ====
section
/-! DEFINITION. Jumps, calls and returns (rules R340 to R351): the shared operations, then one meaning per instruction.
None writes a flag. PC is the address of the instruction's first byte. -/

namespace Sys2Proof.Machine

/-- JP nn (rule R341). -/
def jumpTo (k : OpKey) (nn : Word) (s : State) : Result := jump s k nn

/-- JP cc,nn (rule R342). -/
def jumpIf (k : OpKey) (cc : Cond) (nn : Word) (s : State) : Result :=
  if s.regs.holds cc then jump s k nn else skip s k

/-- JP HL (rule R343). -/
def jumpHl (k : OpKey) (s : State) : Result := jump s k s.regs.hl

/-- `(PC + 2 + e) mod 2^16` (rule R344). -/
def relTarget (s : State) (e : Byte) : Word := s.regs.pc + 2 + sext16 e

/-- JR e (rule R344). -/
def jumpRel (k : OpKey) (e : Byte) (s : State) : Result := jump s k (relTarget s e)

/-- JR cc,e (rule R345). -/
def jumpRelIf (k : OpKey) (cc : Cond) (e : Byte) (s : State) : Result :=
  if s.regs.holds cc then jump s k (relTarget s e) else skip s k

/-- CALL nn: `push16(PC + 3); pc <- t` (rule R346). -/
def callTo (k : OpKey) (nn : Word) (s : State) : Result := jump (push16 s (s.regs.pc + 3)) k nn

/-- CALL cc,nn (rule R347). -/
def callIf (k : OpKey) (cc : Cond) (nn : Word) (s : State) : Result :=
  if s.regs.holds cc then callTo k nn s else skip s k

/-- RET (rule R348). -/
def returnTo (k : OpKey) (s : State) : Result := pop16 s fun s1 w => jump s1 k w

/-- RET cc (rule R349). -/
def returnIf (k : OpKey) (cc : Cond) (s : State) : Result :=
  if s.regs.holds cc then returnTo k s else skip s k

/-- RST t with `t = y * 8`: `push16(PC + 1); pc <- y * 8` (rule R351). -/
def restart (k : OpKey) (y : Nat) (s : State) : Result :=
  jump (push16 s (s.regs.pc + 1)) k (BitVec.ofNat 16 (y * 8))

/-- JR e (rule R344). -/
def execJrDisp (e : Byte) (s : State) : Result := jumpRel (.base 0x18) e s

/-- JR NZ,e (rule R345). -/
def execJrNZDisp (e : Byte) (s : State) : Result := jumpRelIf (.base 0x20) .nz e s

/-- JR Z,e (rule R345). -/
def execJrZDisp (e : Byte) (s : State) : Result := jumpRelIf (.base 0x28) .z e s

/-- JR NC,e (rule R345). -/
def execJrNCDisp (e : Byte) (s : State) : Result := jumpRelIf (.base 0x30) .nc e s

/-- JR C,e (rule R345). -/
def execJrCDisp (e : Byte) (s : State) : Result := jumpRelIf (.base 0x38) .c e s

/-- RET NZ (rule R349). -/
def execRetNZ (s : State) : Result := returnIf (.base 0xC0) .nz s

/-- JP NZ,nn (rule R342). -/
def execJpNZImm16 (nn : Word) (s : State) : Result := jumpIf (.base 0xC2) .nz nn s

/-- JP nn (rule R341). -/
def execJpImm16 (nn : Word) (s : State) : Result := jumpTo (.base 0xC3) nn s

/-- CALL NZ,nn (rule R347). -/
def execCallNZImm16 (nn : Word) (s : State) : Result := callIf (.base 0xC4) .nz nn s

/-- RST 0x00 (rule R351). -/
def execRst00 (s : State) : Result := restart (.base 0xC7) 0 s

/-- RET Z (rule R349). -/
def execRetZ (s : State) : Result := returnIf (.base 0xC8) .z s

/-- RET (rule R348). -/
def execRet (s : State) : Result := returnTo (.base 0xC9) s

/-- JP Z,nn (rule R342). -/
def execJpZImm16 (nn : Word) (s : State) : Result := jumpIf (.base 0xCA) .z nn s

/-- CALL Z,nn (rule R347). -/
def execCallZImm16 (nn : Word) (s : State) : Result := callIf (.base 0xCC) .z nn s

/-- CALL nn (rule R346). -/
def execCallImm16 (nn : Word) (s : State) : Result := callTo (.base 0xCD) nn s

/-- RST 0x08 (rule R351). -/
def execRst08 (s : State) : Result := restart (.base 0xCF) 1 s

/-- RET NC (rule R349). -/
def execRetNC (s : State) : Result := returnIf (.base 0xD0) .nc s

/-- JP NC,nn (rule R342). -/
def execJpNCImm16 (nn : Word) (s : State) : Result := jumpIf (.base 0xD2) .nc nn s

/-- CALL NC,nn (rule R347). -/
def execCallNCImm16 (nn : Word) (s : State) : Result := callIf (.base 0xD4) .nc nn s

/-- RST 0x10 (rule R351). -/
def execRst10 (s : State) : Result := restart (.base 0xD7) 2 s

/-- RET C (rule R349). -/
def execRetC (s : State) : Result := returnIf (.base 0xD8) .c s

/-- RETI (rule R350). -/
def execReti (s : State) : Result := returnFromInterrupt s (.base 0xD9)

/-- JP C,nn (rule R342). -/
def execJpCImm16 (nn : Word) (s : State) : Result := jumpIf (.base 0xDA) .c nn s

/-- CALL C,nn (rule R347). -/
def execCallCImm16 (nn : Word) (s : State) : Result := callIf (.base 0xDC) .c nn s

/-- RST 0x18 (rule R351). -/
def execRst18 (s : State) : Result := restart (.base 0xDF) 3 s

/-- RST 0x20 (rule R351). -/
def execRst20 (s : State) : Result := restart (.base 0xE7) 4 s

/-- JP HL (rule R343). -/
def execJpHL (s : State) : Result := jumpHl (.base 0xE9) s

/-- RST 0x28 (rule R351). -/
def execRst28 (s : State) : Result := restart (.base 0xEF) 5 s

/-- RST 0x30 (rule R351). -/
def execRst30 (s : State) : Result := restart (.base 0xF7) 6 s

/-- RST 0x38 (rule R351). -/
def execRst38 (s : State) : Result := restart (.base 0xFF) 7 s

end Sys2Proof.Machine
end

