-- ==== Sys2Proof/Machine/Load16.lean ====
section
/-! DEFINITION. The 16-bit loads and the stack (rules R230 to R236): the shared operations, then one meaning per
instruction. -/

namespace Sys2Proof.Machine

/-- LD rr,nn (rule R230). -/
def loadPair (k : OpKey) (p : Pair) (nn : Word) (s : State) : Result := finish (s.setRegs (s.regs.setPair p nn)) k

/-- LD (nn),SP: SP's low byte at `nn`, then its high byte at `nn + 1` (rule R231). -/
def storeSp (k : OpKey) (nn : Word) (s : State) : Result := finish (write16 s nn s.regs.sp) k

/-- LD SP,HL (rule R232). -/
def loadSpHl (k : OpKey) (s : State) : Result := finish (s.setSp s.regs.hl) k

/-- LD HL,SP+e: Z cleared, C and HN from `sp_plus`, SP unchanged (rule R233). -/
def loadHlSp (k : OpKey) (e : Byte) (s : State) : Result :=
  let r := spPlus s.regs.sp e
  finish ((((s.setRegs (s.regs.setPair .hl r.res)).setZ false).setC r.carry).setHN r.half false) k

/-- PUSH qq (rule R234). -/
def pushPair (k : OpKey) (p : StackPair) (s : State) : Result := finish (push16 s (s.regs.stackPair p)) k

/-- POP qq; POP AF loads F's high nibble under every flag model (rules R235, R236). -/
def popPair (k : OpKey) (p : StackPair) (s : State) : Result :=
  pop16 s fun s1 w => finish (s1.setRegs (s1.regs.setStackPair p w)) k

/-- LD BC,nn (rule R230). -/
def execLdBCImm16 (nn : Word) (s : State) : Result := loadPair (.base 0x01) .bc nn s

/-- LD (nn),SP (rule R231). -/
def execLdAtImm16SP (nn : Word) (s : State) : Result := storeSp (.base 0x08) nn s

/-- LD DE,nn (rule R230). -/
def execLdDEImm16 (nn : Word) (s : State) : Result := loadPair (.base 0x11) .de nn s

/-- LD HL,nn (rule R230). -/
def execLdHLImm16 (nn : Word) (s : State) : Result := loadPair (.base 0x21) .hl nn s

/-- LD SP,nn (rule R230). -/
def execLdSPImm16 (nn : Word) (s : State) : Result := loadPair (.base 0x31) .sp nn s

/-- POP BC (rule R235). -/
def execPopBC (s : State) : Result := popPair (.base 0xC1) .bc s

/-- PUSH BC (rule R234). -/
def execPushBC (s : State) : Result := pushPair (.base 0xC5) .bc s

/-- POP DE (rule R235). -/
def execPopDE (s : State) : Result := popPair (.base 0xD1) .de s

/-- PUSH DE (rule R234). -/
def execPushDE (s : State) : Result := pushPair (.base 0xD5) .de s

/-- POP HL (rule R235). -/
def execPopHL (s : State) : Result := popPair (.base 0xE1) .hl s

/-- PUSH HL (rule R234). -/
def execPushHL (s : State) : Result := pushPair (.base 0xE5) .hl s

/-- POP AF (rule R236). -/
def execPopAF (s : State) : Result := popPair (.base 0xF1) .af s

/-- PUSH AF (rule R234). -/
def execPushAF (s : State) : Result := pushPair (.base 0xF5) .af s

/-- LD HL,SP+e (rule R233). -/
def execLdHLSPDisp (e : Byte) (s : State) : Result := loadHlSp (.base 0xF8) e s

/-- LD SP,HL (rule R232). -/
def execLdSPHL (s : State) : Result := loadSpHl (.base 0xF9) s

end Sys2Proof.Machine
end

