-- ==== Sys2Proof/Machine/Load8.lean ====
section
/-! DEFINITION. The 8-bit loads (rules R200 to R218): the shared operations, then one meaning per instruction. None writes
a flag. -/

namespace Sys2Proof.Machine

/-- LD between selectors: `v <- get8(src); set8(dst, v)` (rules R200, R202, R203). -/
def loadSel (k : OpKey) (dst src : Sel) (s : State) : Result :=
  attempt s (get8 s src) fun v => finish (set8 s dst v) k

/-- LD of an immediate into a register or into memory at HL (rules R201, R204). -/
def loadImm (k : OpKey) (dst : Sel) (n : Byte) (s : State) : Result := finish (set8 s dst n) k

/-- LD A,(BC), (DE), (HL+) and (HL-): the read, then HL's step (rules R205, R206, R217, R218). -/
def loadAInd (k : OpKey) (p : Ptr) (s : State) : Result :=
  attempt s (read8 s (s.regs.ptr p)) fun v => finish (s.setRegs { s.regs.stepPtr p with a := v }) k

/-- LD (BC), (DE), (HL+) and (HL-),A: the write, then HL's step (rules R207, R208, R215, R216). -/
def storeAInd (k : OpKey) (p : Ptr) (s : State) : Result :=
  let s1 := write8 s (s.regs.ptr p) s.regs.a
  finish (s1.setRegs (s1.regs.stepPtr p)) k

/-- LD A,(nn), LDH A,(n) and LD A,(C) (rules R209, R211, R213). -/
def loadAFrom (k : OpKey) (w : AbsAddr) (s : State) : Result :=
  attempt s (read8 s (s.regs.absAddr w)) fun v => finish (s.setRegs { s.regs with a := v }) k

/-- LD (nn),A, LDH (n),A and LD (C),A (rules R210, R212, R214). -/
def storeATo (k : OpKey) (w : AbsAddr) (s : State) : Result :=
  finish (write8 s (s.regs.absAddr w) s.regs.a) k

/-- LD (BC),A (rule R207). -/
def execLdAtBCA (s : State) : Result := storeAInd (.base 0x02) .bc s

/-- LD B,n (rule R201). -/
def execLdBImm (n : Byte) (s : State) : Result := loadImm (.base 0x06) .b n s

/-- LD A,(BC) (rule R205). -/
def execLdAAtBC (s : State) : Result := loadAInd (.base 0x0A) .bc s

/-- LD C,n (rule R201). -/
def execLdCImm (n : Byte) (s : State) : Result := loadImm (.base 0x0E) .c n s

/-- LD (DE),A (rule R208). -/
def execLdAtDEA (s : State) : Result := storeAInd (.base 0x12) .de s

/-- LD D,n (rule R201). -/
def execLdDImm (n : Byte) (s : State) : Result := loadImm (.base 0x16) .d n s

/-- LD A,(DE) (rule R206). -/
def execLdAAtDE (s : State) : Result := loadAInd (.base 0x1A) .de s

/-- LD E,n (rule R201). -/
def execLdEImm (n : Byte) (s : State) : Result := loadImm (.base 0x1E) .e n s

/-- LD (HL+),A (rule R215). -/
def execLdAtHLIncA (s : State) : Result := storeAInd (.base 0x22) .hlInc s

/-- LD H,n (rule R201). -/
def execLdHImm (n : Byte) (s : State) : Result := loadImm (.base 0x26) .h n s

/-- LD A,(HL+) (rule R217). -/
def execLdAAtHLInc (s : State) : Result := loadAInd (.base 0x2A) .hlInc s

/-- LD L,n (rule R201). -/
def execLdLImm (n : Byte) (s : State) : Result := loadImm (.base 0x2E) .l n s

/-- LD (HL-),A (rule R216). -/
def execLdAtHLDecA (s : State) : Result := storeAInd (.base 0x32) .hlDec s

/-- LD (HL),n (rule R204). -/
def execLdAtHLImm (n : Byte) (s : State) : Result := loadImm (.base 0x36) .atHL n s

/-- LD A,(HL-) (rule R218). -/
def execLdAAtHLDec (s : State) : Result := loadAInd (.base 0x3A) .hlDec s

/-- LD A,n (rule R201). -/
def execLdAImm (n : Byte) (s : State) : Result := loadImm (.base 0x3E) .a n s

/-- LD B,B (rule R200). -/
def execLdBB (s : State) : Result := loadSel (.base 0x40) .b .b s

/-- LD B,C (rule R200). -/
def execLdBC (s : State) : Result := loadSel (.base 0x41) .b .c s

/-- LD B,D (rule R200). -/
def execLdBD (s : State) : Result := loadSel (.base 0x42) .b .d s

/-- LD B,E (rule R200). -/
def execLdBE (s : State) : Result := loadSel (.base 0x43) .b .e s

/-- LD B,H (rule R200). -/
def execLdBH (s : State) : Result := loadSel (.base 0x44) .b .h s

/-- LD B,L (rule R200). -/
def execLdBL (s : State) : Result := loadSel (.base 0x45) .b .l s

/-- LD B,(HL) (rule R202). -/
def execLdBAtHL (s : State) : Result := loadSel (.base 0x46) .b .atHL s

/-- LD B,A (rule R200). -/
def execLdBA (s : State) : Result := loadSel (.base 0x47) .b .a s

/-- LD C,B (rule R200). -/
def execLdCB (s : State) : Result := loadSel (.base 0x48) .c .b s

/-- LD C,C (rule R200). -/
def execLdCC (s : State) : Result := loadSel (.base 0x49) .c .c s

/-- LD C,D (rule R200). -/
def execLdCD (s : State) : Result := loadSel (.base 0x4A) .c .d s

/-- LD C,E (rule R200). -/
def execLdCE (s : State) : Result := loadSel (.base 0x4B) .c .e s

/-- LD C,H (rule R200). -/
def execLdCH (s : State) : Result := loadSel (.base 0x4C) .c .h s

/-- LD C,L (rule R200). -/
def execLdCL (s : State) : Result := loadSel (.base 0x4D) .c .l s

/-- LD C,(HL) (rule R202). -/
def execLdCAtHL (s : State) : Result := loadSel (.base 0x4E) .c .atHL s

/-- LD C,A (rule R200). -/
def execLdCA (s : State) : Result := loadSel (.base 0x4F) .c .a s

/-- LD D,B (rule R200). -/
def execLdDB (s : State) : Result := loadSel (.base 0x50) .d .b s

/-- LD D,C (rule R200). -/
def execLdDC (s : State) : Result := loadSel (.base 0x51) .d .c s

/-- LD D,D (rule R200). -/
def execLdDD (s : State) : Result := loadSel (.base 0x52) .d .d s

/-- LD D,E (rule R200). -/
def execLdDE (s : State) : Result := loadSel (.base 0x53) .d .e s

/-- LD D,H (rule R200). -/
def execLdDH (s : State) : Result := loadSel (.base 0x54) .d .h s

/-- LD D,L (rule R200). -/
def execLdDL (s : State) : Result := loadSel (.base 0x55) .d .l s

/-- LD D,(HL) (rule R202). -/
def execLdDAtHL (s : State) : Result := loadSel (.base 0x56) .d .atHL s

/-- LD D,A (rule R200). -/
def execLdDA (s : State) : Result := loadSel (.base 0x57) .d .a s

/-- LD E,B (rule R200). -/
def execLdEB (s : State) : Result := loadSel (.base 0x58) .e .b s

/-- LD E,C (rule R200). -/
def execLdEC (s : State) : Result := loadSel (.base 0x59) .e .c s

/-- LD E,D (rule R200). -/
def execLdED (s : State) : Result := loadSel (.base 0x5A) .e .d s

/-- LD E,E (rule R200). -/
def execLdEE (s : State) : Result := loadSel (.base 0x5B) .e .e s

/-- LD E,H (rule R200). -/
def execLdEH (s : State) : Result := loadSel (.base 0x5C) .e .h s

/-- LD E,L (rule R200). -/
def execLdEL (s : State) : Result := loadSel (.base 0x5D) .e .l s

/-- LD E,(HL) (rule R202). -/
def execLdEAtHL (s : State) : Result := loadSel (.base 0x5E) .e .atHL s

/-- LD E,A (rule R200). -/
def execLdEA (s : State) : Result := loadSel (.base 0x5F) .e .a s

/-- LD H,B (rule R200). -/
def execLdHB (s : State) : Result := loadSel (.base 0x60) .h .b s

/-- LD H,C (rule R200). -/
def execLdHC (s : State) : Result := loadSel (.base 0x61) .h .c s

/-- LD H,D (rule R200). -/
def execLdHD (s : State) : Result := loadSel (.base 0x62) .h .d s

/-- LD H,E (rule R200). -/
def execLdHE (s : State) : Result := loadSel (.base 0x63) .h .e s

/-- LD H,H (rule R200). -/
def execLdHH (s : State) : Result := loadSel (.base 0x64) .h .h s

/-- LD H,L (rule R200). -/
def execLdHL (s : State) : Result := loadSel (.base 0x65) .h .l s

/-- LD H,(HL) (rule R202). -/
def execLdHAtHL (s : State) : Result := loadSel (.base 0x66) .h .atHL s

/-- LD H,A (rule R200). -/
def execLdHA (s : State) : Result := loadSel (.base 0x67) .h .a s

/-- LD L,B (rule R200). -/
def execLdLB (s : State) : Result := loadSel (.base 0x68) .l .b s

/-- LD L,C (rule R200). -/
def execLdLC (s : State) : Result := loadSel (.base 0x69) .l .c s

/-- LD L,D (rule R200). -/
def execLdLD (s : State) : Result := loadSel (.base 0x6A) .l .d s

/-- LD L,E (rule R200). -/
def execLdLE (s : State) : Result := loadSel (.base 0x6B) .l .e s

/-- LD L,H (rule R200). -/
def execLdLH (s : State) : Result := loadSel (.base 0x6C) .l .h s

/-- LD L,L (rule R200). -/
def execLdLL (s : State) : Result := loadSel (.base 0x6D) .l .l s

/-- LD L,(HL) (rule R202). -/
def execLdLAtHL (s : State) : Result := loadSel (.base 0x6E) .l .atHL s

/-- LD L,A (rule R200). -/
def execLdLA (s : State) : Result := loadSel (.base 0x6F) .l .a s

/-- LD (HL),B (rule R203). -/
def execLdAtHLB (s : State) : Result := loadSel (.base 0x70) .atHL .b s

/-- LD (HL),C (rule R203). -/
def execLdAtHLC (s : State) : Result := loadSel (.base 0x71) .atHL .c s

/-- LD (HL),D (rule R203). -/
def execLdAtHLD (s : State) : Result := loadSel (.base 0x72) .atHL .d s

/-- LD (HL),E (rule R203). -/
def execLdAtHLE (s : State) : Result := loadSel (.base 0x73) .atHL .e s

/-- LD (HL),H (rule R203). -/
def execLdAtHLH (s : State) : Result := loadSel (.base 0x74) .atHL .h s

/-- LD (HL),L (rule R203). -/
def execLdAtHLL (s : State) : Result := loadSel (.base 0x75) .atHL .l s

/-- LD (HL),A (rule R203). -/
def execLdAtHLA (s : State) : Result := loadSel (.base 0x77) .atHL .a s

/-- LD A,B (rule R200). -/
def execLdAB (s : State) : Result := loadSel (.base 0x78) .a .b s

/-- LD A,C (rule R200). -/
def execLdAC (s : State) : Result := loadSel (.base 0x79) .a .c s

/-- LD A,D (rule R200). -/
def execLdAD (s : State) : Result := loadSel (.base 0x7A) .a .d s

/-- LD A,E (rule R200). -/
def execLdAE (s : State) : Result := loadSel (.base 0x7B) .a .e s

/-- LD A,H (rule R200). -/
def execLdAH (s : State) : Result := loadSel (.base 0x7C) .a .h s

/-- LD A,L (rule R200). -/
def execLdAL (s : State) : Result := loadSel (.base 0x7D) .a .l s

/-- LD A,(HL) (rule R202). -/
def execLdAAtHL (s : State) : Result := loadSel (.base 0x7E) .a .atHL s

/-- LD A,A (rule R200). -/
def execLdAA (s : State) : Result := loadSel (.base 0x7F) .a .a s

/-- LDH (n),A (rule R212). -/
def execLdhAtImmA (n : Byte) (s : State) : Result := storeATo (.base 0xE0) (.high n) s

/-- LD (C),A (rule R214). -/
def execLdAtCA (s : State) : Result := storeATo (.base 0xE2) .highC s

/-- LD (nn),A (rule R210). -/
def execLdAtImm16A (nn : Word) (s : State) : Result := storeATo (.base 0xEA) (.abs nn) s

/-- LDH A,(n) (rule R211). -/
def execLdhAAtImm (n : Byte) (s : State) : Result := loadAFrom (.base 0xF0) (.high n) s

/-- LD A,(C) (rule R213). -/
def execLdAAtC (s : State) : Result := loadAFrom (.base 0xF2) .highC s

/-- LD A,(nn) (rule R209). -/
def execLdAAtImm16 (nn : Word) (s : State) : Result := loadAFrom (.base 0xFA) (.abs nn) s

end Sys2Proof.Machine
end

