-- ==== Sys2Proof/Machine/RotateBit.lean ====
section
/-! DEFINITION. Rotates, shifts and bit operations (rules R300 to R315): the shared operations, then one meaning per
instruction. -/

namespace Sys2Proof.Machine

/-- The one-byte accumulator rotates: Z by `ACC_ROTATE_Z`, C the bit shifted out, HN(0, 0) (rules R300 to R303). -/
def accRotate (k : OpKey) (op : AccRot) (s : State) : Result :=
  let r := op.eval s.regs.a s.regs.flags.c
  let s1 := s.setRegs { s.regs with a := r.res }
  finish (((s1.setZ (accZ s.params r.res)).setC r.out).setHN false false) k

/-- A CB operation: `v <- get8(r)`, the write-back that all but BIT make, the flags that RES and SET do not write
(rules R304 to R315). -/
def runCb (k : OpKey) (c : CbOp) (s : State) : Result :=
  match c with
  | .rot op r =>
    attempt s (get8 s r) fun v =>
      let x := op.eval v s.regs.flags.c
      finish ((((set8 s r x.res).setZ (decide (x.res = 0))).setC x.out).setHN false false) k
  | .bit b r => attempt s (get8 s r) fun v => finish ((s.setZ (!v.getLsbD b.val)).setHN true false) k
  | .res b r => attempt s (get8 s r) fun v => finish (set8 s r (v &&& ~~~bitMask b)) k
  | .set b r => attempt s (get8 s r) fun v => finish (set8 s r (v ||| bitMask b)) k

/-- The selector numbered `z` (rule R102). -/
def selOf (z : Nat) : Sel :=
  match z with
  | 0 => .b
  | 1 => .c
  | 2 => .d
  | 3 => .e
  | 4 => .h
  | 5 => .l
  | 6 => .atHL
  | _ => .a

/-- The CB rotate numbered `y` (rule R103). -/
def cbRotOf (y : Nat) : CbRot :=
  match y with
  | 0 => .rlc
  | 1 => .rrc
  | 2 => .rl
  | 3 => .rr
  | 4 => .sla
  | 5 => .sra
  | 6 => .swap
  | _ => .srl

/-- The operation of a sub-opcode by its fields x, y and z (rules R101, R107). -/
def cbFields (sub : Byte) : CbOp :=
  let y : Fin 8 := Fin.ofNat 8 (sub.toNat / 8)
  let r := selOf (sub.toNat % 8)
  match sub.toNat / 64 with
  | 0 => .rot (cbRotOf y.val) r
  | 1 => .bit y r
  | 2 => .res y r
  | _ => .set y r

/-- The prefix with its sub-opcode: DecodeError outside `SUPPORTED_CB`, otherwise what the fields of the sub-opcode name
(rules R304, R366, log 13). -/
def runPrefix (sub : Byte) (s : State) : Result :=
  if s.params.supportedCb.mem sub then runCb (.cb sub) (cbFields sub) s
  else .next (s.raise (.decode s.regs.pc 0xCB (some sub)))

/-- RLCA (rule R300). -/
def execRlca (s : State) : Result := accRotate (.base 0x07) .rlca s

/-- RRCA (rule R301). -/
def execRrca (s : State) : Result := accRotate (.base 0x0F) .rrca s

/-- RLA (rule R302). -/
def execRla (s : State) : Result := accRotate (.base 0x17) .rla s

/-- RRA (rule R303). -/
def execRra (s : State) : Result := accRotate (.base 0x1F) .rra s

/-- PREFIX CB (rule R304). -/
def execPrefixCb (sub : Byte) (s : State) : Result := runPrefix sub s

/-- RLC B (rule R305). -/
def execRlcB (s : State) : Result := runCb (.cb 0x00) (.rot .rlc .b) s

/-- RLC C (rule R305). -/
def execRlcC (s : State) : Result := runCb (.cb 0x01) (.rot .rlc .c) s

/-- RLC D (rule R305). -/
def execRlcD (s : State) : Result := runCb (.cb 0x02) (.rot .rlc .d) s

/-- RLC E (rule R305). -/
def execRlcE (s : State) : Result := runCb (.cb 0x03) (.rot .rlc .e) s

/-- RLC H (rule R305). -/
def execRlcH (s : State) : Result := runCb (.cb 0x04) (.rot .rlc .h) s

/-- RLC L (rule R305). -/
def execRlcL (s : State) : Result := runCb (.cb 0x05) (.rot .rlc .l) s

/-- RLC (HL) (rule R305). -/
def execRlcAtHL (s : State) : Result := runCb (.cb 0x06) (.rot .rlc .atHL) s

/-- RLC A (rule R305). -/
def execRlcA (s : State) : Result := runCb (.cb 0x07) (.rot .rlc .a) s

/-- RRC B (rule R306). -/
def execRrcB (s : State) : Result := runCb (.cb 0x08) (.rot .rrc .b) s

/-- RRC C (rule R306). -/
def execRrcC (s : State) : Result := runCb (.cb 0x09) (.rot .rrc .c) s

/-- RRC D (rule R306). -/
def execRrcD (s : State) : Result := runCb (.cb 0x0A) (.rot .rrc .d) s

/-- RRC E (rule R306). -/
def execRrcE (s : State) : Result := runCb (.cb 0x0B) (.rot .rrc .e) s

/-- RRC H (rule R306). -/
def execRrcH (s : State) : Result := runCb (.cb 0x0C) (.rot .rrc .h) s

/-- RRC L (rule R306). -/
def execRrcL (s : State) : Result := runCb (.cb 0x0D) (.rot .rrc .l) s

/-- RRC (HL) (rule R306). -/
def execRrcAtHL (s : State) : Result := runCb (.cb 0x0E) (.rot .rrc .atHL) s

/-- RRC A (rule R306). -/
def execRrcA (s : State) : Result := runCb (.cb 0x0F) (.rot .rrc .a) s

/-- RL B (rule R307). -/
def execRlB (s : State) : Result := runCb (.cb 0x10) (.rot .rl .b) s

/-- RL C (rule R307). -/
def execRlC (s : State) : Result := runCb (.cb 0x11) (.rot .rl .c) s

/-- RL D (rule R307). -/
def execRlD (s : State) : Result := runCb (.cb 0x12) (.rot .rl .d) s

/-- RL E (rule R307). -/
def execRlE (s : State) : Result := runCb (.cb 0x13) (.rot .rl .e) s

/-- RL H (rule R307). -/
def execRlH (s : State) : Result := runCb (.cb 0x14) (.rot .rl .h) s

/-- RL L (rule R307). -/
def execRlL (s : State) : Result := runCb (.cb 0x15) (.rot .rl .l) s

/-- RL (HL) (rule R307). -/
def execRlAtHL (s : State) : Result := runCb (.cb 0x16) (.rot .rl .atHL) s

/-- RL A (rule R307). -/
def execRlA (s : State) : Result := runCb (.cb 0x17) (.rot .rl .a) s

/-- RR B (rule R308). -/
def execRrB (s : State) : Result := runCb (.cb 0x18) (.rot .rr .b) s

/-- RR C (rule R308). -/
def execRrC (s : State) : Result := runCb (.cb 0x19) (.rot .rr .c) s

/-- RR D (rule R308). -/
def execRrD (s : State) : Result := runCb (.cb 0x1A) (.rot .rr .d) s

/-- RR E (rule R308). -/
def execRrE (s : State) : Result := runCb (.cb 0x1B) (.rot .rr .e) s

/-- RR H (rule R308). -/
def execRrH (s : State) : Result := runCb (.cb 0x1C) (.rot .rr .h) s

/-- RR L (rule R308). -/
def execRrL (s : State) : Result := runCb (.cb 0x1D) (.rot .rr .l) s

/-- RR (HL) (rule R308). -/
def execRrAtHL (s : State) : Result := runCb (.cb 0x1E) (.rot .rr .atHL) s

/-- RR A (rule R308). -/
def execRrA (s : State) : Result := runCb (.cb 0x1F) (.rot .rr .a) s

/-- SLA B (rule R309). -/
def execSlaB (s : State) : Result := runCb (.cb 0x20) (.rot .sla .b) s

/-- SLA C (rule R309). -/
def execSlaC (s : State) : Result := runCb (.cb 0x21) (.rot .sla .c) s

/-- SLA D (rule R309). -/
def execSlaD (s : State) : Result := runCb (.cb 0x22) (.rot .sla .d) s

/-- SLA E (rule R309). -/
def execSlaE (s : State) : Result := runCb (.cb 0x23) (.rot .sla .e) s

/-- SLA H (rule R309). -/
def execSlaH (s : State) : Result := runCb (.cb 0x24) (.rot .sla .h) s

/-- SLA L (rule R309). -/
def execSlaL (s : State) : Result := runCb (.cb 0x25) (.rot .sla .l) s

/-- SLA (HL) (rule R309). -/
def execSlaAtHL (s : State) : Result := runCb (.cb 0x26) (.rot .sla .atHL) s

/-- SLA A (rule R309). -/
def execSlaA (s : State) : Result := runCb (.cb 0x27) (.rot .sla .a) s

/-- SRA B (rule R310). -/
def execSraB (s : State) : Result := runCb (.cb 0x28) (.rot .sra .b) s

/-- SRA C (rule R310). -/
def execSraC (s : State) : Result := runCb (.cb 0x29) (.rot .sra .c) s

/-- SRA D (rule R310). -/
def execSraD (s : State) : Result := runCb (.cb 0x2A) (.rot .sra .d) s

/-- SRA E (rule R310). -/
def execSraE (s : State) : Result := runCb (.cb 0x2B) (.rot .sra .e) s

/-- SRA H (rule R310). -/
def execSraH (s : State) : Result := runCb (.cb 0x2C) (.rot .sra .h) s

/-- SRA L (rule R310). -/
def execSraL (s : State) : Result := runCb (.cb 0x2D) (.rot .sra .l) s

/-- SRA (HL) (rule R310). -/
def execSraAtHL (s : State) : Result := runCb (.cb 0x2E) (.rot .sra .atHL) s

/-- SRA A (rule R310). -/
def execSraA (s : State) : Result := runCb (.cb 0x2F) (.rot .sra .a) s

/-- SWAP B (rule R311). -/
def execSwapB (s : State) : Result := runCb (.cb 0x30) (.rot .swap .b) s

/-- SWAP C (rule R311). -/
def execSwapC (s : State) : Result := runCb (.cb 0x31) (.rot .swap .c) s

/-- SWAP D (rule R311). -/
def execSwapD (s : State) : Result := runCb (.cb 0x32) (.rot .swap .d) s

/-- SWAP E (rule R311). -/
def execSwapE (s : State) : Result := runCb (.cb 0x33) (.rot .swap .e) s

/-- SWAP H (rule R311). -/
def execSwapH (s : State) : Result := runCb (.cb 0x34) (.rot .swap .h) s

/-- SWAP L (rule R311). -/
def execSwapL (s : State) : Result := runCb (.cb 0x35) (.rot .swap .l) s

/-- SWAP (HL) (rule R311). -/
def execSwapAtHL (s : State) : Result := runCb (.cb 0x36) (.rot .swap .atHL) s

/-- SWAP A (rule R311). -/
def execSwapA (s : State) : Result := runCb (.cb 0x37) (.rot .swap .a) s

/-- SRL B (rule R312). -/
def execSrlB (s : State) : Result := runCb (.cb 0x38) (.rot .srl .b) s

/-- SRL C (rule R312). -/
def execSrlC (s : State) : Result := runCb (.cb 0x39) (.rot .srl .c) s

/-- SRL D (rule R312). -/
def execSrlD (s : State) : Result := runCb (.cb 0x3A) (.rot .srl .d) s

/-- SRL E (rule R312). -/
def execSrlE (s : State) : Result := runCb (.cb 0x3B) (.rot .srl .e) s

/-- SRL H (rule R312). -/
def execSrlH (s : State) : Result := runCb (.cb 0x3C) (.rot .srl .h) s

/-- SRL L (rule R312). -/
def execSrlL (s : State) : Result := runCb (.cb 0x3D) (.rot .srl .l) s

/-- SRL (HL) (rule R312). -/
def execSrlAtHL (s : State) : Result := runCb (.cb 0x3E) (.rot .srl .atHL) s

/-- SRL A (rule R312). -/
def execSrlA (s : State) : Result := runCb (.cb 0x3F) (.rot .srl .a) s

/-- BIT 0,B (rule R313). -/
def execBit0B (s : State) : Result := runCb (.cb 0x40) (.bit 0 .b) s

/-- BIT 0,C (rule R313). -/
def execBit0C (s : State) : Result := runCb (.cb 0x41) (.bit 0 .c) s

/-- BIT 0,D (rule R313). -/
def execBit0D (s : State) : Result := runCb (.cb 0x42) (.bit 0 .d) s

/-- BIT 0,E (rule R313). -/
def execBit0E (s : State) : Result := runCb (.cb 0x43) (.bit 0 .e) s

/-- BIT 0,H (rule R313). -/
def execBit0H (s : State) : Result := runCb (.cb 0x44) (.bit 0 .h) s

/-- BIT 0,L (rule R313). -/
def execBit0L (s : State) : Result := runCb (.cb 0x45) (.bit 0 .l) s

/-- BIT 0,(HL) (rule R313). -/
def execBit0AtHL (s : State) : Result := runCb (.cb 0x46) (.bit 0 .atHL) s

/-- BIT 0,A (rule R313). -/
def execBit0A (s : State) : Result := runCb (.cb 0x47) (.bit 0 .a) s

/-- BIT 1,B (rule R313). -/
def execBit1B (s : State) : Result := runCb (.cb 0x48) (.bit 1 .b) s

/-- BIT 1,C (rule R313). -/
def execBit1C (s : State) : Result := runCb (.cb 0x49) (.bit 1 .c) s

/-- BIT 1,D (rule R313). -/
def execBit1D (s : State) : Result := runCb (.cb 0x4A) (.bit 1 .d) s

/-- BIT 1,E (rule R313). -/
def execBit1E (s : State) : Result := runCb (.cb 0x4B) (.bit 1 .e) s

/-- BIT 1,H (rule R313). -/
def execBit1H (s : State) : Result := runCb (.cb 0x4C) (.bit 1 .h) s

/-- BIT 1,L (rule R313). -/
def execBit1L (s : State) : Result := runCb (.cb 0x4D) (.bit 1 .l) s

/-- BIT 1,(HL) (rule R313). -/
def execBit1AtHL (s : State) : Result := runCb (.cb 0x4E) (.bit 1 .atHL) s

/-- BIT 1,A (rule R313). -/
def execBit1A (s : State) : Result := runCb (.cb 0x4F) (.bit 1 .a) s

/-- BIT 2,B (rule R313). -/
def execBit2B (s : State) : Result := runCb (.cb 0x50) (.bit 2 .b) s

/-- BIT 2,C (rule R313). -/
def execBit2C (s : State) : Result := runCb (.cb 0x51) (.bit 2 .c) s

/-- BIT 2,D (rule R313). -/
def execBit2D (s : State) : Result := runCb (.cb 0x52) (.bit 2 .d) s

/-- BIT 2,E (rule R313). -/
def execBit2E (s : State) : Result := runCb (.cb 0x53) (.bit 2 .e) s

/-- BIT 2,H (rule R313). -/
def execBit2H (s : State) : Result := runCb (.cb 0x54) (.bit 2 .h) s

/-- BIT 2,L (rule R313). -/
def execBit2L (s : State) : Result := runCb (.cb 0x55) (.bit 2 .l) s

/-- BIT 2,(HL) (rule R313). -/
def execBit2AtHL (s : State) : Result := runCb (.cb 0x56) (.bit 2 .atHL) s

/-- BIT 2,A (rule R313). -/
def execBit2A (s : State) : Result := runCb (.cb 0x57) (.bit 2 .a) s

/-- BIT 3,B (rule R313). -/
def execBit3B (s : State) : Result := runCb (.cb 0x58) (.bit 3 .b) s

/-- BIT 3,C (rule R313). -/
def execBit3C (s : State) : Result := runCb (.cb 0x59) (.bit 3 .c) s

/-- BIT 3,D (rule R313). -/
def execBit3D (s : State) : Result := runCb (.cb 0x5A) (.bit 3 .d) s

/-- BIT 3,E (rule R313). -/
def execBit3E (s : State) : Result := runCb (.cb 0x5B) (.bit 3 .e) s

/-- BIT 3,H (rule R313). -/
def execBit3H (s : State) : Result := runCb (.cb 0x5C) (.bit 3 .h) s

/-- BIT 3,L (rule R313). -/
def execBit3L (s : State) : Result := runCb (.cb 0x5D) (.bit 3 .l) s

/-- BIT 3,(HL) (rule R313). -/
def execBit3AtHL (s : State) : Result := runCb (.cb 0x5E) (.bit 3 .atHL) s

/-- BIT 3,A (rule R313). -/
def execBit3A (s : State) : Result := runCb (.cb 0x5F) (.bit 3 .a) s

/-- BIT 4,B (rule R313). -/
def execBit4B (s : State) : Result := runCb (.cb 0x60) (.bit 4 .b) s

/-- BIT 4,C (rule R313). -/
def execBit4C (s : State) : Result := runCb (.cb 0x61) (.bit 4 .c) s

/-- BIT 4,D (rule R313). -/
def execBit4D (s : State) : Result := runCb (.cb 0x62) (.bit 4 .d) s

/-- BIT 4,E (rule R313). -/
def execBit4E (s : State) : Result := runCb (.cb 0x63) (.bit 4 .e) s

/-- BIT 4,H (rule R313). -/
def execBit4H (s : State) : Result := runCb (.cb 0x64) (.bit 4 .h) s

/-- BIT 4,L (rule R313). -/
def execBit4L (s : State) : Result := runCb (.cb 0x65) (.bit 4 .l) s

/-- BIT 4,(HL) (rule R313). -/
def execBit4AtHL (s : State) : Result := runCb (.cb 0x66) (.bit 4 .atHL) s

/-- BIT 4,A (rule R313). -/
def execBit4A (s : State) : Result := runCb (.cb 0x67) (.bit 4 .a) s

/-- BIT 5,B (rule R313). -/
def execBit5B (s : State) : Result := runCb (.cb 0x68) (.bit 5 .b) s

/-- BIT 5,C (rule R313). -/
def execBit5C (s : State) : Result := runCb (.cb 0x69) (.bit 5 .c) s

/-- BIT 5,D (rule R313). -/
def execBit5D (s : State) : Result := runCb (.cb 0x6A) (.bit 5 .d) s

/-- BIT 5,E (rule R313). -/
def execBit5E (s : State) : Result := runCb (.cb 0x6B) (.bit 5 .e) s

/-- BIT 5,H (rule R313). -/
def execBit5H (s : State) : Result := runCb (.cb 0x6C) (.bit 5 .h) s

/-- BIT 5,L (rule R313). -/
def execBit5L (s : State) : Result := runCb (.cb 0x6D) (.bit 5 .l) s

/-- BIT 5,(HL) (rule R313). -/
def execBit5AtHL (s : State) : Result := runCb (.cb 0x6E) (.bit 5 .atHL) s

/-- BIT 5,A (rule R313). -/
def execBit5A (s : State) : Result := runCb (.cb 0x6F) (.bit 5 .a) s

/-- BIT 6,B (rule R313). -/
def execBit6B (s : State) : Result := runCb (.cb 0x70) (.bit 6 .b) s

/-- BIT 6,C (rule R313). -/
def execBit6C (s : State) : Result := runCb (.cb 0x71) (.bit 6 .c) s

/-- BIT 6,D (rule R313). -/
def execBit6D (s : State) : Result := runCb (.cb 0x72) (.bit 6 .d) s

/-- BIT 6,E (rule R313). -/
def execBit6E (s : State) : Result := runCb (.cb 0x73) (.bit 6 .e) s

/-- BIT 6,H (rule R313). -/
def execBit6H (s : State) : Result := runCb (.cb 0x74) (.bit 6 .h) s

/-- BIT 6,L (rule R313). -/
def execBit6L (s : State) : Result := runCb (.cb 0x75) (.bit 6 .l) s

/-- BIT 6,(HL) (rule R313). -/
def execBit6AtHL (s : State) : Result := runCb (.cb 0x76) (.bit 6 .atHL) s

/-- BIT 6,A (rule R313). -/
def execBit6A (s : State) : Result := runCb (.cb 0x77) (.bit 6 .a) s

/-- BIT 7,B (rule R313). -/
def execBit7B (s : State) : Result := runCb (.cb 0x78) (.bit 7 .b) s

/-- BIT 7,C (rule R313). -/
def execBit7C (s : State) : Result := runCb (.cb 0x79) (.bit 7 .c) s

/-- BIT 7,D (rule R313). -/
def execBit7D (s : State) : Result := runCb (.cb 0x7A) (.bit 7 .d) s

/-- BIT 7,E (rule R313). -/
def execBit7E (s : State) : Result := runCb (.cb 0x7B) (.bit 7 .e) s

/-- BIT 7,H (rule R313). -/
def execBit7H (s : State) : Result := runCb (.cb 0x7C) (.bit 7 .h) s

/-- BIT 7,L (rule R313). -/
def execBit7L (s : State) : Result := runCb (.cb 0x7D) (.bit 7 .l) s

/-- BIT 7,(HL) (rule R313). -/
def execBit7AtHL (s : State) : Result := runCb (.cb 0x7E) (.bit 7 .atHL) s

/-- BIT 7,A (rule R313). -/
def execBit7A (s : State) : Result := runCb (.cb 0x7F) (.bit 7 .a) s

/-- RES 0,B (rule R314). -/
def execRes0B (s : State) : Result := runCb (.cb 0x80) (.res 0 .b) s

/-- RES 0,C (rule R314). -/
def execRes0C (s : State) : Result := runCb (.cb 0x81) (.res 0 .c) s

/-- RES 0,D (rule R314). -/
def execRes0D (s : State) : Result := runCb (.cb 0x82) (.res 0 .d) s

/-- RES 0,E (rule R314). -/
def execRes0E (s : State) : Result := runCb (.cb 0x83) (.res 0 .e) s

/-- RES 0,H (rule R314). -/
def execRes0H (s : State) : Result := runCb (.cb 0x84) (.res 0 .h) s

/-- RES 0,L (rule R314). -/
def execRes0L (s : State) : Result := runCb (.cb 0x85) (.res 0 .l) s

/-- RES 0,(HL) (rule R314). -/
def execRes0AtHL (s : State) : Result := runCb (.cb 0x86) (.res 0 .atHL) s

/-- RES 0,A (rule R314). -/
def execRes0A (s : State) : Result := runCb (.cb 0x87) (.res 0 .a) s

/-- RES 1,B (rule R314). -/
def execRes1B (s : State) : Result := runCb (.cb 0x88) (.res 1 .b) s

/-- RES 1,C (rule R314). -/
def execRes1C (s : State) : Result := runCb (.cb 0x89) (.res 1 .c) s

/-- RES 1,D (rule R314). -/
def execRes1D (s : State) : Result := runCb (.cb 0x8A) (.res 1 .d) s

/-- RES 1,E (rule R314). -/
def execRes1E (s : State) : Result := runCb (.cb 0x8B) (.res 1 .e) s

/-- RES 1,H (rule R314). -/
def execRes1H (s : State) : Result := runCb (.cb 0x8C) (.res 1 .h) s

/-- RES 1,L (rule R314). -/
def execRes1L (s : State) : Result := runCb (.cb 0x8D) (.res 1 .l) s

/-- RES 1,(HL) (rule R314). -/
def execRes1AtHL (s : State) : Result := runCb (.cb 0x8E) (.res 1 .atHL) s

/-- RES 1,A (rule R314). -/
def execRes1A (s : State) : Result := runCb (.cb 0x8F) (.res 1 .a) s

/-- RES 2,B (rule R314). -/
def execRes2B (s : State) : Result := runCb (.cb 0x90) (.res 2 .b) s

/-- RES 2,C (rule R314). -/
def execRes2C (s : State) : Result := runCb (.cb 0x91) (.res 2 .c) s

/-- RES 2,D (rule R314). -/
def execRes2D (s : State) : Result := runCb (.cb 0x92) (.res 2 .d) s

/-- RES 2,E (rule R314). -/
def execRes2E (s : State) : Result := runCb (.cb 0x93) (.res 2 .e) s

/-- RES 2,H (rule R314). -/
def execRes2H (s : State) : Result := runCb (.cb 0x94) (.res 2 .h) s

/-- RES 2,L (rule R314). -/
def execRes2L (s : State) : Result := runCb (.cb 0x95) (.res 2 .l) s

/-- RES 2,(HL) (rule R314). -/
def execRes2AtHL (s : State) : Result := runCb (.cb 0x96) (.res 2 .atHL) s

/-- RES 2,A (rule R314). -/
def execRes2A (s : State) : Result := runCb (.cb 0x97) (.res 2 .a) s

/-- RES 3,B (rule R314). -/
def execRes3B (s : State) : Result := runCb (.cb 0x98) (.res 3 .b) s

/-- RES 3,C (rule R314). -/
def execRes3C (s : State) : Result := runCb (.cb 0x99) (.res 3 .c) s

/-- RES 3,D (rule R314). -/
def execRes3D (s : State) : Result := runCb (.cb 0x9A) (.res 3 .d) s

/-- RES 3,E (rule R314). -/
def execRes3E (s : State) : Result := runCb (.cb 0x9B) (.res 3 .e) s

/-- RES 3,H (rule R314). -/
def execRes3H (s : State) : Result := runCb (.cb 0x9C) (.res 3 .h) s

/-- RES 3,L (rule R314). -/
def execRes3L (s : State) : Result := runCb (.cb 0x9D) (.res 3 .l) s

/-- RES 3,(HL) (rule R314). -/
def execRes3AtHL (s : State) : Result := runCb (.cb 0x9E) (.res 3 .atHL) s

/-- RES 3,A (rule R314). -/
def execRes3A (s : State) : Result := runCb (.cb 0x9F) (.res 3 .a) s

/-- RES 4,B (rule R314). -/
def execRes4B (s : State) : Result := runCb (.cb 0xA0) (.res 4 .b) s

/-- RES 4,C (rule R314). -/
def execRes4C (s : State) : Result := runCb (.cb 0xA1) (.res 4 .c) s

/-- RES 4,D (rule R314). -/
def execRes4D (s : State) : Result := runCb (.cb 0xA2) (.res 4 .d) s

/-- RES 4,E (rule R314). -/
def execRes4E (s : State) : Result := runCb (.cb 0xA3) (.res 4 .e) s

/-- RES 4,H (rule R314). -/
def execRes4H (s : State) : Result := runCb (.cb 0xA4) (.res 4 .h) s

/-- RES 4,L (rule R314). -/
def execRes4L (s : State) : Result := runCb (.cb 0xA5) (.res 4 .l) s

/-- RES 4,(HL) (rule R314). -/
def execRes4AtHL (s : State) : Result := runCb (.cb 0xA6) (.res 4 .atHL) s

/-- RES 4,A (rule R314). -/
def execRes4A (s : State) : Result := runCb (.cb 0xA7) (.res 4 .a) s

/-- RES 5,B (rule R314). -/
def execRes5B (s : State) : Result := runCb (.cb 0xA8) (.res 5 .b) s

/-- RES 5,C (rule R314). -/
def execRes5C (s : State) : Result := runCb (.cb 0xA9) (.res 5 .c) s

/-- RES 5,D (rule R314). -/
def execRes5D (s : State) : Result := runCb (.cb 0xAA) (.res 5 .d) s

/-- RES 5,E (rule R314). -/
def execRes5E (s : State) : Result := runCb (.cb 0xAB) (.res 5 .e) s

/-- RES 5,H (rule R314). -/
def execRes5H (s : State) : Result := runCb (.cb 0xAC) (.res 5 .h) s

/-- RES 5,L (rule R314). -/
def execRes5L (s : State) : Result := runCb (.cb 0xAD) (.res 5 .l) s

/-- RES 5,(HL) (rule R314). -/
def execRes5AtHL (s : State) : Result := runCb (.cb 0xAE) (.res 5 .atHL) s

/-- RES 5,A (rule R314). -/
def execRes5A (s : State) : Result := runCb (.cb 0xAF) (.res 5 .a) s

/-- RES 6,B (rule R314). -/
def execRes6B (s : State) : Result := runCb (.cb 0xB0) (.res 6 .b) s

/-- RES 6,C (rule R314). -/
def execRes6C (s : State) : Result := runCb (.cb 0xB1) (.res 6 .c) s

/-- RES 6,D (rule R314). -/
def execRes6D (s : State) : Result := runCb (.cb 0xB2) (.res 6 .d) s

/-- RES 6,E (rule R314). -/
def execRes6E (s : State) : Result := runCb (.cb 0xB3) (.res 6 .e) s

/-- RES 6,H (rule R314). -/
def execRes6H (s : State) : Result := runCb (.cb 0xB4) (.res 6 .h) s

/-- RES 6,L (rule R314). -/
def execRes6L (s : State) : Result := runCb (.cb 0xB5) (.res 6 .l) s

/-- RES 6,(HL) (rule R314). -/
def execRes6AtHL (s : State) : Result := runCb (.cb 0xB6) (.res 6 .atHL) s

/-- RES 6,A (rule R314). -/
def execRes6A (s : State) : Result := runCb (.cb 0xB7) (.res 6 .a) s

/-- RES 7,B (rule R314). -/
def execRes7B (s : State) : Result := runCb (.cb 0xB8) (.res 7 .b) s

/-- RES 7,C (rule R314). -/
def execRes7C (s : State) : Result := runCb (.cb 0xB9) (.res 7 .c) s

/-- RES 7,D (rule R314). -/
def execRes7D (s : State) : Result := runCb (.cb 0xBA) (.res 7 .d) s

/-- RES 7,E (rule R314). -/
def execRes7E (s : State) : Result := runCb (.cb 0xBB) (.res 7 .e) s

/-- RES 7,H (rule R314). -/
def execRes7H (s : State) : Result := runCb (.cb 0xBC) (.res 7 .h) s

/-- RES 7,L (rule R314). -/
def execRes7L (s : State) : Result := runCb (.cb 0xBD) (.res 7 .l) s

/-- RES 7,(HL) (rule R314). -/
def execRes7AtHL (s : State) : Result := runCb (.cb 0xBE) (.res 7 .atHL) s

/-- RES 7,A (rule R314). -/
def execRes7A (s : State) : Result := runCb (.cb 0xBF) (.res 7 .a) s

/-- SET 0,B (rule R315). -/
def execSet0B (s : State) : Result := runCb (.cb 0xC0) (.set 0 .b) s

/-- SET 0,C (rule R315). -/
def execSet0C (s : State) : Result := runCb (.cb 0xC1) (.set 0 .c) s

/-- SET 0,D (rule R315). -/
def execSet0D (s : State) : Result := runCb (.cb 0xC2) (.set 0 .d) s

/-- SET 0,E (rule R315). -/
def execSet0E (s : State) : Result := runCb (.cb 0xC3) (.set 0 .e) s

/-- SET 0,H (rule R315). -/
def execSet0H (s : State) : Result := runCb (.cb 0xC4) (.set 0 .h) s

/-- SET 0,L (rule R315). -/
def execSet0L (s : State) : Result := runCb (.cb 0xC5) (.set 0 .l) s

/-- SET 0,(HL) (rule R315). -/
def execSet0AtHL (s : State) : Result := runCb (.cb 0xC6) (.set 0 .atHL) s

/-- SET 0,A (rule R315). -/
def execSet0A (s : State) : Result := runCb (.cb 0xC7) (.set 0 .a) s

/-- SET 1,B (rule R315). -/
def execSet1B (s : State) : Result := runCb (.cb 0xC8) (.set 1 .b) s

/-- SET 1,C (rule R315). -/
def execSet1C (s : State) : Result := runCb (.cb 0xC9) (.set 1 .c) s

/-- SET 1,D (rule R315). -/
def execSet1D (s : State) : Result := runCb (.cb 0xCA) (.set 1 .d) s

/-- SET 1,E (rule R315). -/
def execSet1E (s : State) : Result := runCb (.cb 0xCB) (.set 1 .e) s

/-- SET 1,H (rule R315). -/
def execSet1H (s : State) : Result := runCb (.cb 0xCC) (.set 1 .h) s

/-- SET 1,L (rule R315). -/
def execSet1L (s : State) : Result := runCb (.cb 0xCD) (.set 1 .l) s

/-- SET 1,(HL) (rule R315). -/
def execSet1AtHL (s : State) : Result := runCb (.cb 0xCE) (.set 1 .atHL) s

/-- SET 1,A (rule R315). -/
def execSet1A (s : State) : Result := runCb (.cb 0xCF) (.set 1 .a) s

/-- SET 2,B (rule R315). -/
def execSet2B (s : State) : Result := runCb (.cb 0xD0) (.set 2 .b) s

/-- SET 2,C (rule R315). -/
def execSet2C (s : State) : Result := runCb (.cb 0xD1) (.set 2 .c) s

/-- SET 2,D (rule R315). -/
def execSet2D (s : State) : Result := runCb (.cb 0xD2) (.set 2 .d) s

/-- SET 2,E (rule R315). -/
def execSet2E (s : State) : Result := runCb (.cb 0xD3) (.set 2 .e) s

/-- SET 2,H (rule R315). -/
def execSet2H (s : State) : Result := runCb (.cb 0xD4) (.set 2 .h) s

/-- SET 2,L (rule R315). -/
def execSet2L (s : State) : Result := runCb (.cb 0xD5) (.set 2 .l) s

/-- SET 2,(HL) (rule R315). -/
def execSet2AtHL (s : State) : Result := runCb (.cb 0xD6) (.set 2 .atHL) s

/-- SET 2,A (rule R315). -/
def execSet2A (s : State) : Result := runCb (.cb 0xD7) (.set 2 .a) s

/-- SET 3,B (rule R315). -/
def execSet3B (s : State) : Result := runCb (.cb 0xD8) (.set 3 .b) s

/-- SET 3,C (rule R315). -/
def execSet3C (s : State) : Result := runCb (.cb 0xD9) (.set 3 .c) s

/-- SET 3,D (rule R315). -/
def execSet3D (s : State) : Result := runCb (.cb 0xDA) (.set 3 .d) s

/-- SET 3,E (rule R315). -/
def execSet3E (s : State) : Result := runCb (.cb 0xDB) (.set 3 .e) s

/-- SET 3,H (rule R315). -/
def execSet3H (s : State) : Result := runCb (.cb 0xDC) (.set 3 .h) s

/-- SET 3,L (rule R315). -/
def execSet3L (s : State) : Result := runCb (.cb 0xDD) (.set 3 .l) s

/-- SET 3,(HL) (rule R315). -/
def execSet3AtHL (s : State) : Result := runCb (.cb 0xDE) (.set 3 .atHL) s

/-- SET 3,A (rule R315). -/
def execSet3A (s : State) : Result := runCb (.cb 0xDF) (.set 3 .a) s

/-- SET 4,B (rule R315). -/
def execSet4B (s : State) : Result := runCb (.cb 0xE0) (.set 4 .b) s

/-- SET 4,C (rule R315). -/
def execSet4C (s : State) : Result := runCb (.cb 0xE1) (.set 4 .c) s

/-- SET 4,D (rule R315). -/
def execSet4D (s : State) : Result := runCb (.cb 0xE2) (.set 4 .d) s

/-- SET 4,E (rule R315). -/
def execSet4E (s : State) : Result := runCb (.cb 0xE3) (.set 4 .e) s

/-- SET 4,H (rule R315). -/
def execSet4H (s : State) : Result := runCb (.cb 0xE4) (.set 4 .h) s

/-- SET 4,L (rule R315). -/
def execSet4L (s : State) : Result := runCb (.cb 0xE5) (.set 4 .l) s

/-- SET 4,(HL) (rule R315). -/
def execSet4AtHL (s : State) : Result := runCb (.cb 0xE6) (.set 4 .atHL) s

/-- SET 4,A (rule R315). -/
def execSet4A (s : State) : Result := runCb (.cb 0xE7) (.set 4 .a) s

/-- SET 5,B (rule R315). -/
def execSet5B (s : State) : Result := runCb (.cb 0xE8) (.set 5 .b) s

/-- SET 5,C (rule R315). -/
def execSet5C (s : State) : Result := runCb (.cb 0xE9) (.set 5 .c) s

/-- SET 5,D (rule R315). -/
def execSet5D (s : State) : Result := runCb (.cb 0xEA) (.set 5 .d) s

/-- SET 5,E (rule R315). -/
def execSet5E (s : State) : Result := runCb (.cb 0xEB) (.set 5 .e) s

/-- SET 5,H (rule R315). -/
def execSet5H (s : State) : Result := runCb (.cb 0xEC) (.set 5 .h) s

/-- SET 5,L (rule R315). -/
def execSet5L (s : State) : Result := runCb (.cb 0xED) (.set 5 .l) s

/-- SET 5,(HL) (rule R315). -/
def execSet5AtHL (s : State) : Result := runCb (.cb 0xEE) (.set 5 .atHL) s

/-- SET 5,A (rule R315). -/
def execSet5A (s : State) : Result := runCb (.cb 0xEF) (.set 5 .a) s

/-- SET 6,B (rule R315). -/
def execSet6B (s : State) : Result := runCb (.cb 0xF0) (.set 6 .b) s

/-- SET 6,C (rule R315). -/
def execSet6C (s : State) : Result := runCb (.cb 0xF1) (.set 6 .c) s

/-- SET 6,D (rule R315). -/
def execSet6D (s : State) : Result := runCb (.cb 0xF2) (.set 6 .d) s

/-- SET 6,E (rule R315). -/
def execSet6E (s : State) : Result := runCb (.cb 0xF3) (.set 6 .e) s

/-- SET 6,H (rule R315). -/
def execSet6H (s : State) : Result := runCb (.cb 0xF4) (.set 6 .h) s

/-- SET 6,L (rule R315). -/
def execSet6L (s : State) : Result := runCb (.cb 0xF5) (.set 6 .l) s

/-- SET 6,(HL) (rule R315). -/
def execSet6AtHL (s : State) : Result := runCb (.cb 0xF6) (.set 6 .atHL) s

/-- SET 6,A (rule R315). -/
def execSet6A (s : State) : Result := runCb (.cb 0xF7) (.set 6 .a) s

/-- SET 7,B (rule R315). -/
def execSet7B (s : State) : Result := runCb (.cb 0xF8) (.set 7 .b) s

/-- SET 7,C (rule R315). -/
def execSet7C (s : State) : Result := runCb (.cb 0xF9) (.set 7 .c) s

/-- SET 7,D (rule R315). -/
def execSet7D (s : State) : Result := runCb (.cb 0xFA) (.set 7 .d) s

/-- SET 7,E (rule R315). -/
def execSet7E (s : State) : Result := runCb (.cb 0xFB) (.set 7 .e) s

/-- SET 7,H (rule R315). -/
def execSet7H (s : State) : Result := runCb (.cb 0xFC) (.set 7 .h) s

/-- SET 7,L (rule R315). -/
def execSet7L (s : State) : Result := runCb (.cb 0xFD) (.set 7 .l) s

/-- SET 7,(HL) (rule R315). -/
def execSet7AtHL (s : State) : Result := runCb (.cb 0xFE) (.set 7 .atHL) s

/-- SET 7,A (rule R315). -/
def execSet7A (s : State) : Result := runCb (.cb 0xFF) (.set 7 .a) s

end Sys2Proof.Machine
end

