-- ==== Sys2Proof/Machine/System.lean ====
section
/-! DEFINITION. System instructions and the illegal bytes (rules R360 to R365): the shared operations, then one meaning per
instruction. -/

namespace Sys2Proof.Machine

/-- HALT: a fatal HALT_BUG with IME false and a request waiting, otherwise `halted <- true` (rule R361). -/
def enterHalt (k : OpKey) (s : State) : Result :=
  if wake s && !s.irq.ime then .next (s.raise (.unimplemented .haltBug)) else finish (s.setHalted true) k

/-- DI and EI: `IME <- on` (rules R362, R363). -/
def writeIme (k : OpKey) (on : Bool) (s : State) : Result := finish (s.setIme on) k

/-- STOP: "always a fatal UnimplementedFeatureError(STOP)" (rule R364). -/
def stopCpu (s : State) : Result := .next (s.raise (.unimplemented .stop))

/-- An illegal byte: `raise DecodeError(PC, op)` (rule R365). -/
def illegalOp (op : Byte) (s : State) : Result := .next (s.raise (.decode s.regs.pc op none))

/-- NOP (rule R360). -/
def execNop (s : State) : Result := finish s (.base 0x00)

/-- STOP (rule R364). -/
def execStop (s : State) : Result := stopCpu s

/-- HALT (rule R361). -/
def execHalt (s : State) : Result := enterHalt (.base 0x76) s

/-- An illegal byte (rule R365). -/
def execIllegal (op : Byte) (s : State) : Result := illegalOp op s

/-- DI (rule R362). -/
def execDi (s : State) : Result := writeIme (.base 0xF3) false s

/-- EI (rule R363). -/
def execEi (s : State) : Result := writeIme (.base 0xFB) true s

end Sys2Proof.Machine
end

