-- ==== Sys2Proof/Machine/Fetch.lean ====
section
/-! DEFINITION. Fetching an instruction's bytes and the decode check (steps (c) and (d) of rule R110, rules R104, R366), and
placing an instruction where the next step fetches. -/

namespace Sys2Proof.Machine

/-- How many bytes after the opcode are read before an instruction executes. STOP is refused before its second byte is read:
"the refusal of DAA, STOP or HALT_BUG" comes before "the operand fetch" (rule R403, log 12). -/
def operandCount (op : Byte) : Nat := if op = 0x10 then 0 else opcodeLength op - 1

/-- The bytes of the instruction at PC, or the fatal error that comes first in the order of rule R403: the opcode fetch,
the sub-opcode fetch, the decode check against `SUPPORTED_BASE` or `SUPPORTED_CB` (log 7), the operand fetch. -/
def fetchBytes (s : State) : Except FatalError (List Byte) :=
  let pc := s.regs.pc
  match read8 s pc with
  | .error e => .error e
  | .ok op =>
    if op = 0xCB then
      match read8 s (pc + 1) with
      | .error e => .error e
      | .ok sub => if s.params.supportedCb.mem sub then .ok [op, sub] else .error (.decode pc op (some sub))
    else if s.params.supportedBase.mem op then
      match operandCount op with
      | 0 => .ok [op]
      | 1 =>
        match read8 s (pc + 1) with
        | .error e => .error e
        | .ok b1 => .ok [op, b1]
      | _ =>
        match read8 s (pc + 1) with
        | .error e => .error e
        | .ok b1 =>
          match read8 s (pc + 2) with
          | .error e => .error e
          | .ok b2 => .ok [op, b1, b2]
    else .error (.decode pc op none)

/-- The instruction at PC, or a fatal error. The bytes of `fetchBytes` always decode; the last case is there because
`decode` is total. -/
def fetchInstr (s : State) : Except FatalError Instr :=
  match fetchBytes s with
  | .error e => .error e
  | .ok bytes =>
    match decode bytes with
    | .ok (i, _) => .ok i
    | .error _ => .error (.decode s.regs.pc (bytes.headD 0) none)

/-- Sets the byte behind an address in whatever store backs it, ROM images too: the loading of an image, not an access of
the machine. An address with no store behind it is left alone. -/
def placeByte (s : State) (a : Word) (v : Byte) : State :=
  match route s.mem a with
  | .boot => s.setMem { s.mem with boot := writeByte s.mem.boot a.toNat v }
  | .cart =>
    if a.toNat < s.mem.cartSize then s.setMem { s.mem with cart := writeByte s.mem.cart a.toNat v } else s
  | .vram => s.setMem { s.mem with vram := writeByte s.mem.vram (a.toNat - 0x8000) v }
  | .wram => s.setMem { s.mem with wram := writeByte s.mem.wram (a.toNat - 0xC000) v }
  | .wramMirror => s.setMem { s.mem with wram := writeByte s.mem.wram (a.toNat - 0xE000) v }
  | .hram => s.setMem { s.mem with hram := writeByte s.mem.hram (a.toNat - 0xFF80) v }
  | _ => s

/-- Places bytes at `a`, `a + 1`, …. -/
def placeBytes (s : State) (a : Word) : List Byte → State
  | [] => s
  | b :: bs => placeBytes (placeByte s a b) (a + 1) bs

/-- Puts the opcode of the given bytes into the supported sets, the premise of rule R10, unless it is one of the eleven
bytes with no instruction. -/
def supportOpcode (p : Params) (bytes : List Byte) : Params :=
  match bytes with
  | [] => p
  | op :: rest =>
    if op = 0xCB then { p with supportedCb := p.supportedCb.insert (rest.headD 0) }
    else if illegalBytes.contains op then p
    else { p with supportedBase := p.supportedBase.insert op }

/-- Places the bytes of an instruction where the next step fetches: at PC, or at the vector when that step dispatches. The
CPU is awake and unstopped, and the opcode is in the supported sets (log 8). -/
def placeAtFetch (s : State) (bytes : List Byte) : State :=
  let s1 : State := { s with halted := false, fatal := none, params := supportOpcode s.params bytes }
  placeBytes s1 (readyState s1).regs.pc bytes

end Sys2Proof.Machine
end

