-- ==== Sys2Proof/Machine/Step.lean ====
section
/-! DEFINITION. One step of the ExecutionEngine (rule R110). -/

namespace Sys2Proof.Machine

/-- Steps (c) to (f) of rule R110: fetch, decode, execute; a fatal error of the fetch or of the decode check ends the
step. -/
def runInstr (s : State) : Host.Outcome State Fault Refusal :=
  match fetchInstr s with
  | .error e => .next (s.raise e)
  | .ok i => exec i s

/-- `step()` (rule R110). A step that returns `Ok(events)` answers a next state without the mark `fatal`; one that returns
`Fatal(error, events)` answers a next state with it; with the mark set there is no step (rule R401, log 1). -/
def step (s : State) : Host.Outcome State Fault Refusal :=
  match s.fatal with
  | some e => .fault (.stopped e)
  | none =>
    if idles (interruptPhase s) then .next (idle (interruptPhase s))
    else runInstr (readyState s)

/-- `s` with the instruction whose bits are `w`, numbered as the opcode table numbers them, where the next step fetches
(log 8). -/
def State.withFetchWord (s : State) (nbits w : Nat) : State := placeAtFetch s (tableBytes nbits w)

end Sys2Proof.Machine
end

