-- ==== Sys2Proof/Machine/Form.lean ====
section
/-! DEFINITION. The shape of an instruction: what operation its constructor names, with which operands. The 502 constructors
have 48 shapes; a statement about a shape is a statement about every constructor that has it. `fieldForm` reads the shape
off the opcode's fields (rules R101 to R107), independently of the maps that `decode` uses. -/

namespace Sys2Proof.Machine

/-- The shapes. -/
inductive Form where
  /-- LD r,r', LD r,(HL), LD (HL),r (rules R200, R202, R203). -/
  | ld (dst src : Sel)
  /-- LD r,n, LD (HL),n (rules R201, R204). -/
  | ldImm (dst : Sel) (n : Byte)
  /-- LD A,(BC), (DE), (HL+), (HL-) (rules R205, R206, R217, R218). -/
  | ldAInd (p : Ptr)
  /-- LD (BC), (DE), (HL+), (HL-),A (rules R207, R208, R215, R216). -/
  | ldIndA (p : Ptr)
  /-- LD A,(nn), LDH A,(n), LD A,(C) (rules R209, R211, R213). -/
  | ldAFrom (w : AbsAddr)
  /-- LD (nn),A, LDH (n),A, LD (C),A (rules R210, R212, R214). -/
  | ldATo (w : AbsAddr)
  /-- LD rr,nn (rule R230). -/
  | ldPair (p : Pair) (nn : Word)
  /-- LD (nn),SP (rule R231). -/
  | stSp (nn : Word)
  /-- LD SP,HL (rule R232). -/
  | ldSpHl
  /-- LD HL,SP+e (rule R233). -/
  | ldHlSp (e : Byte)
  /-- PUSH qq (rule R234). -/
  | push (p : StackPair)
  /-- POP qq (rules R235, R236). -/
  | pop (p : StackPair)
  /-- The eight `alu` operations on A and a selector (rules R252 to R266). -/
  | alu (op : Alu) (src : Sel)
  /-- The eight `alu` operations on A and an immediate (rules R253 to R267). -/
  | aluImm (op : Alu) (n : Byte)
  /-- INC r, INC (HL) (rules R268, R269). -/
  | inc (r : Sel)
  /-- DEC r, DEC (HL) (rules R270, R271). -/
  | dec (r : Sel)
  /-- DAA (rule R272). -/
  | daa
  /-- CPL (rule R273). -/
  | cpl
  /-- SCF (rule R274). -/
  | scf
  /-- CCF (rule R275). -/
  | ccf
  /-- ADD HL,rr (rule R280). -/
  | addHl (p : Pair)
  /-- INC rr (rule R281). -/
  | incPair (p : Pair)
  /-- DEC rr (rule R282). -/
  | decPair (p : Pair)
  /-- ADD SP,e (rule R283). -/
  | addSp (e : Byte)
  /-- RLCA, RRCA, RLA, RRA (rules R300 to R303). -/
  | rotA (op : AccRot)
  /-- The CB family (rules R305 to R315). -/
  | cb (c : CbOp)
  /-- The prefix with its sub-opcode (rule R304). -/
  | prefixCb (sub : Byte)
  /-- JP nn (rule R341). -/
  | jp (nn : Word)
  /-- JP cc,nn (rule R342). -/
  | jpIf (cc : Cond) (nn : Word)
  /-- JP HL (rule R343). -/
  | jpHl
  /-- JR e (rule R344). -/
  | jr (e : Byte)
  /-- JR cc,e (rule R345). -/
  | jrIf (cc : Cond) (e : Byte)
  /-- CALL nn (rule R346). -/
  | call (nn : Word)
  /-- CALL cc,nn (rule R347). -/
  | callIf (cc : Cond) (nn : Word)
  /-- RET (rule R348). -/
  | ret
  /-- RET cc (rule R349). -/
  | retIf (cc : Cond)
  /-- RETI (rule R350). -/
  | reti
  /-- RST y * 8 (rule R351). -/
  | rst (y : Nat)
  /-- NOP (rule R360). -/
  | nop
  /-- HALT (rule R361). -/
  | halt
  /-- DI (rule R362). -/
  | di
  /-- EI (rule R363). -/
  | ei
  /-- STOP (rule R364). -/
  | stop
  /-- An illegal byte (rule R365). -/
  | illegal (op : Byte)
  deriving DecidableEq, Repr

/-- The shape of each instruction. -/
def formOf : Instr → Form
  | .nop => .nop
  | .ldBCImm16 nn => .ldPair .bc nn
  | .ldAtBCA => .ldIndA .bc
  | .incBC => .incPair .bc
  | .incB => .inc .b
  | .decB => .dec .b
  | .ldBImm n => .ldImm .b n
  | .rlca => .rotA .rlca
  | .ldAtImm16SP nn => .stSp nn
  | .addHLBC => .addHl .bc
  | .ldAAtBC => .ldAInd .bc
  | .decBC => .decPair .bc
  | .incC => .inc .c
  | .decC => .dec .c
  | .ldCImm n => .ldImm .c n
  | .rrca => .rotA .rrca
  | .stop => .stop
  | .ldDEImm16 nn => .ldPair .de nn
  | .ldAtDEA => .ldIndA .de
  | .incDE => .incPair .de
  | .incD => .inc .d
  | .decD => .dec .d
  | .ldDImm n => .ldImm .d n
  | .rla => .rotA .rla
  | .jrDisp e => .jr e
  | .addHLDE => .addHl .de
  | .ldAAtDE => .ldAInd .de
  | .decDE => .decPair .de
  | .incE => .inc .e
  | .decE => .dec .e
  | .ldEImm n => .ldImm .e n
  | .rra => .rotA .rra
  | .jrNZDisp e => .jrIf .nz e
  | .ldHLImm16 nn => .ldPair .hl nn
  | .ldAtHLIncA => .ldIndA .hlInc
  | .incHL => .incPair .hl
  | .incH => .inc .h
  | .decH => .dec .h
  | .ldHImm n => .ldImm .h n
  | .daa => .daa
  | .jrZDisp e => .jrIf .z e
  | .addHLHL => .addHl .hl
  | .ldAAtHLInc => .ldAInd .hlInc
  | .decHL => .decPair .hl
  | .incL => .inc .l
  | .decL => .dec .l
  | .ldLImm n => .ldImm .l n
  | .cpl => .cpl
  | .jrNCDisp e => .jrIf .nc e
  | .ldSPImm16 nn => .ldPair .sp nn
  | .ldAtHLDecA => .ldIndA .hlDec
  | .incSP => .incPair .sp
  | .incAtHL => .inc .atHL
  | .decAtHL => .dec .atHL
  | .ldAtHLImm n => .ldImm .atHL n
  | .scf => .scf
  | .jrCDisp e => .jrIf .c e
  | .addHLSP => .addHl .sp
  | .ldAAtHLDec => .ldAInd .hlDec
  | .decSP => .decPair .sp
  | .incA => .inc .a
  | .decA => .dec .a
  | .ldAImm n => .ldImm .a n
  | .ccf => .ccf
  | .ldBB => .ld .b .b
  | .ldBC => .ld .b .c
  | .ldBD => .ld .b .d
  | .ldBE => .ld .b .e
  | .ldBH => .ld .b .h
  | .ldBL => .ld .b .l
  | .ldBAtHL => .ld .b .atHL
  | .ldBA => .ld .b .a
  | .ldCB => .ld .c .b
  | .ldCC => .ld .c .c
  | .ldCD => .ld .c .d
  | .ldCE => .ld .c .e
  | .ldCH => .ld .c .h
  | .ldCL => .ld .c .l
  | .ldCAtHL => .ld .c .atHL
  | .ldCA => .ld .c .a
  | .ldDB => .ld .d .b
  | .ldDC => .ld .d .c
  | .ldDD => .ld .d .d
  | .ldDE => .ld .d .e
  | .ldDH => .ld .d .h
  | .ldDL => .ld .d .l
  | .ldDAtHL => .ld .d .atHL
  | .ldDA => .ld .d .a
  | .ldEB => .ld .e .b
  | .ldEC => .ld .e .c
  | .ldED => .ld .e .d
  | .ldEE => .ld .e .e
  | .ldEH => .ld .e .h
  | .ldEL => .ld .e .l
  | .ldEAtHL => .ld .e .atHL
  | .ldEA => .ld .e .a
  | .ldHB => .ld .h .b
  | .ldHC => .ld .h .c
  | .ldHD => .ld .h .d
  | .ldHE => .ld .h .e
  | .ldHH => .ld .h .h
  | .ldHL => .ld .h .l
  | .ldHAtHL => .ld .h .atHL
  | .ldHA => .ld .h .a
  | .ldLB => .ld .l .b
  | .ldLC => .ld .l .c
  | .ldLD => .ld .l .d
  | .ldLE => .ld .l .e
  | .ldLH => .ld .l .h
  | .ldLL => .ld .l .l
  | .ldLAtHL => .ld .l .atHL
  | .ldLA => .ld .l .a
  | .ldAtHLB => .ld .atHL .b
  | .ldAtHLC => .ld .atHL .c
  | .ldAtHLD => .ld .atHL .d
  | .ldAtHLE => .ld .atHL .e
  | .ldAtHLH => .ld .atHL .h
  | .ldAtHLL => .ld .atHL .l
  | .halt => .halt
  | .ldAtHLA => .ld .atHL .a
  | .ldAB => .ld .a .b
  | .ldAC => .ld .a .c
  | .ldAD => .ld .a .d
  | .ldAE => .ld .a .e
  | .ldAH => .ld .a .h
  | .ldAL => .ld .a .l
  | .ldAAtHL => .ld .a .atHL
  | .ldAA => .ld .a .a
  | .addAB => .alu .add .b
  | .addAC => .alu .add .c
  | .addAD => .alu .add .d
  | .addAE => .alu .add .e
  | .addAH => .alu .add .h
  | .addAL => .alu .add .l
  | .addAAtHL => .alu .add .atHL
  | .addAA => .alu .add .a
  | .adcAB => .alu .adc .b
  | .adcAC => .alu .adc .c
  | .adcAD => .alu .adc .d
  | .adcAE => .alu .adc .e
  | .adcAH => .alu .adc .h
  | .adcAL => .alu .adc .l
  | .adcAAtHL => .alu .adc .atHL
  | .adcAA => .alu .adc .a
  | .subB => .alu .sub .b
  | .subC => .alu .sub .c
  | .subD => .alu .sub .d
  | .subE => .alu .sub .e
  | .subH => .alu .sub .h
  | .subL => .alu .sub .l
  | .subAtHL => .alu .sub .atHL
  | .subA => .alu .sub .a
  | .sbcAB => .alu .sbc .b
  | .sbcAC => .alu .sbc .c
  | .sbcAD => .alu .sbc .d
  | .sbcAE => .alu .sbc .e
  | .sbcAH => .alu .sbc .h
  | .sbcAL => .alu .sbc .l
  | .sbcAAtHL => .alu .sbc .atHL
  | .sbcAA => .alu .sbc .a
  | .andB => .alu .and .b
  | .andC => .alu .and .c
  | .andD => .alu .and .d
  | .andE => .alu .and .e
  | .andH => .alu .and .h
  | .andL => .alu .and .l
  | .andAtHL => .alu .and .atHL
  | .andA => .alu .and .a
  | .xorB => .alu .xor .b
  | .xorC => .alu .xor .c
  | .xorD => .alu .xor .d
  | .xorE => .alu .xor .e
  | .xorH => .alu .xor .h
  | .xorL => .alu .xor .l
  | .xorAtHL => .alu .xor .atHL
  | .xorA => .alu .xor .a
  | .orB => .alu .or .b
  | .orC => .alu .or .c
  | .orD => .alu .or .d
  | .orE => .alu .or .e
  | .orH => .alu .or .h
  | .orL => .alu .or .l
  | .orAtHL => .alu .or .atHL
  | .orA => .alu .or .a
  | .cpB => .alu .cp .b
  | .cpC => .alu .cp .c
  | .cpD => .alu .cp .d
  | .cpE => .alu .cp .e
  | .cpH => .alu .cp .h
  | .cpL => .alu .cp .l
  | .cpAtHL => .alu .cp .atHL
  | .cpA => .alu .cp .a
  | .retNZ => .retIf .nz
  | .popBC => .pop .bc
  | .jpNZImm16 nn => .jpIf .nz nn
  | .jpImm16 nn => .jp nn
  | .callNZImm16 nn => .callIf .nz nn
  | .pushBC => .push .bc
  | .addAImm n => .aluImm .add n
  | .rst00 => .rst 0
  | .retZ => .retIf .z
  | .ret => .ret
  | .jpZImm16 nn => .jpIf .z nn
  | .prefixCb sub => .prefixCb sub
  | .callZImm16 nn => .callIf .z nn
  | .callImm16 nn => .call nn
  | .adcAImm n => .aluImm .adc n
  | .rst08 => .rst 1
  | .retNC => .retIf .nc
  | .popDE => .pop .de
  | .jpNCImm16 nn => .jpIf .nc nn
  | .illegal op => .illegal op
  | .callNCImm16 nn => .callIf .nc nn
  | .pushDE => .push .de
  | .subImm n => .aluImm .sub n
  | .rst10 => .rst 2
  | .retC => .retIf .c
  | .reti => .reti
  | .jpCImm16 nn => .jpIf .c nn
  | .callCImm16 nn => .callIf .c nn
  | .sbcAImm n => .aluImm .sbc n
  | .rst18 => .rst 3
  | .ldhAtImmA n => .ldATo (.high n)
  | .popHL => .pop .hl
  | .ldAtCA => .ldATo .highC
  | .pushHL => .push .hl
  | .andImm n => .aluImm .and n
  | .rst20 => .rst 4
  | .addSPDisp e => .addSp e
  | .jpHL => .jpHl
  | .ldAtImm16A nn => .ldATo (.abs nn)
  | .xorImm n => .aluImm .xor n
  | .rst28 => .rst 5
  | .ldhAAtImm n => .ldAFrom (.high n)
  | .popAF => .pop .af
  | .ldAAtC => .ldAFrom .highC
  | .di => .di
  | .pushAF => .push .af
  | .orImm n => .aluImm .or n
  | .rst30 => .rst 6
  | .ldHLSPDisp e => .ldHlSp e
  | .ldSPHL => .ldSpHl
  | .ldAAtImm16 nn => .ldAFrom (.abs nn)
  | .ei => .ei
  | .cpImm n => .aluImm .cp n
  | .rst38 => .rst 7
  | .rlcB => .cb (.rot .rlc .b)
  | .rlcC => .cb (.rot .rlc .c)
  | .rlcD => .cb (.rot .rlc .d)
  | .rlcE => .cb (.rot .rlc .e)
  | .rlcH => .cb (.rot .rlc .h)
  | .rlcL => .cb (.rot .rlc .l)
  | .rlcAtHL => .cb (.rot .rlc .atHL)
  | .rlcA => .cb (.rot .rlc .a)
  | .rrcB => .cb (.rot .rrc .b)
  | .rrcC => .cb (.rot .rrc .c)
  | .rrcD => .cb (.rot .rrc .d)
  | .rrcE => .cb (.rot .rrc .e)
  | .rrcH => .cb (.rot .rrc .h)
  | .rrcL => .cb (.rot .rrc .l)
  | .rrcAtHL => .cb (.rot .rrc .atHL)
  | .rrcA => .cb (.rot .rrc .a)
  | .rlB => .cb (.rot .rl .b)
  | .rlC => .cb (.rot .rl .c)
  | .rlD => .cb (.rot .rl .d)
  | .rlE => .cb (.rot .rl .e)
  | .rlH => .cb (.rot .rl .h)
  | .rlL => .cb (.rot .rl .l)
  | .rlAtHL => .cb (.rot .rl .atHL)
  | .rlA => .cb (.rot .rl .a)
  | .rrB => .cb (.rot .rr .b)
  | .rrC => .cb (.rot .rr .c)
  | .rrD => .cb (.rot .rr .d)
  | .rrE => .cb (.rot .rr .e)
  | .rrH => .cb (.rot .rr .h)
  | .rrL => .cb (.rot .rr .l)
  | .rrAtHL => .cb (.rot .rr .atHL)
  | .rrA => .cb (.rot .rr .a)
  | .slaB => .cb (.rot .sla .b)
  | .slaC => .cb (.rot .sla .c)
  | .slaD => .cb (.rot .sla .d)
  | .slaE => .cb (.rot .sla .e)
  | .slaH => .cb (.rot .sla .h)
  | .slaL => .cb (.rot .sla .l)
  | .slaAtHL => .cb (.rot .sla .atHL)
  | .slaA => .cb (.rot .sla .a)
  | .sraB => .cb (.rot .sra .b)
  | .sraC => .cb (.rot .sra .c)
  | .sraD => .cb (.rot .sra .d)
  | .sraE => .cb (.rot .sra .e)
  | .sraH => .cb (.rot .sra .h)
  | .sraL => .cb (.rot .sra .l)
  | .sraAtHL => .cb (.rot .sra .atHL)
  | .sraA => .cb (.rot .sra .a)
  | .swapB => .cb (.rot .swap .b)
  | .swapC => .cb (.rot .swap .c)
  | .swapD => .cb (.rot .swap .d)
  | .swapE => .cb (.rot .swap .e)
  | .swapH => .cb (.rot .swap .h)
  | .swapL => .cb (.rot .swap .l)
  | .swapAtHL => .cb (.rot .swap .atHL)
  | .swapA => .cb (.rot .swap .a)
  | .srlB => .cb (.rot .srl .b)
  | .srlC => .cb (.rot .srl .c)
  | .srlD => .cb (.rot .srl .d)
  | .srlE => .cb (.rot .srl .e)
  | .srlH => .cb (.rot .srl .h)
  | .srlL => .cb (.rot .srl .l)
  | .srlAtHL => .cb (.rot .srl .atHL)
  | .srlA => .cb (.rot .srl .a)
  | .bit0B => .cb (.bit 0 .b)
  | .bit0C => .cb (.bit 0 .c)
  | .bit0D => .cb (.bit 0 .d)
  | .bit0E => .cb (.bit 0 .e)
  | .bit0H => .cb (.bit 0 .h)
  | .bit0L => .cb (.bit 0 .l)
  | .bit0AtHL => .cb (.bit 0 .atHL)
  | .bit0A => .cb (.bit 0 .a)
  | .bit1B => .cb (.bit 1 .b)
  | .bit1C => .cb (.bit 1 .c)
  | .bit1D => .cb (.bit 1 .d)
  | .bit1E => .cb (.bit 1 .e)
  | .bit1H => .cb (.bit 1 .h)
  | .bit1L => .cb (.bit 1 .l)
  | .bit1AtHL => .cb (.bit 1 .atHL)
  | .bit1A => .cb (.bit 1 .a)
  | .bit2B => .cb (.bit 2 .b)
  | .bit2C => .cb (.bit 2 .c)
  | .bit2D => .cb (.bit 2 .d)
  | .bit2E => .cb (.bit 2 .e)
  | .bit2H => .cb (.bit 2 .h)
  | .bit2L => .cb (.bit 2 .l)
  | .bit2AtHL => .cb (.bit 2 .atHL)
  | .bit2A => .cb (.bit 2 .a)
  | .bit3B => .cb (.bit 3 .b)
  | .bit3C => .cb (.bit 3 .c)
  | .bit3D => .cb (.bit 3 .d)
  | .bit3E => .cb (.bit 3 .e)
  | .bit3H => .cb (.bit 3 .h)
  | .bit3L => .cb (.bit 3 .l)
  | .bit3AtHL => .cb (.bit 3 .atHL)
  | .bit3A => .cb (.bit 3 .a)
  | .bit4B => .cb (.bit 4 .b)
  | .bit4C => .cb (.bit 4 .c)
  | .bit4D => .cb (.bit 4 .d)
  | .bit4E => .cb (.bit 4 .e)
  | .bit4H => .cb (.bit 4 .h)
  | .bit4L => .cb (.bit 4 .l)
  | .bit4AtHL => .cb (.bit 4 .atHL)
  | .bit4A => .cb (.bit 4 .a)
  | .bit5B => .cb (.bit 5 .b)
  | .bit5C => .cb (.bit 5 .c)
  | .bit5D => .cb (.bit 5 .d)
  | .bit5E => .cb (.bit 5 .e)
  | .bit5H => .cb (.bit 5 .h)
  | .bit5L => .cb (.bit 5 .l)
  | .bit5AtHL => .cb (.bit 5 .atHL)
  | .bit5A => .cb (.bit 5 .a)
  | .bit6B => .cb (.bit 6 .b)
  | .bit6C => .cb (.bit 6 .c)
  | .bit6D => .cb (.bit 6 .d)
  | .bit6E => .cb (.bit 6 .e)
  | .bit6H => .cb (.bit 6 .h)
  | .bit6L => .cb (.bit 6 .l)
  | .bit6AtHL => .cb (.bit 6 .atHL)
  | .bit6A => .cb (.bit 6 .a)
  | .bit7B => .cb (.bit 7 .b)
  | .bit7C => .cb (.bit 7 .c)
  | .bit7D => .cb (.bit 7 .d)
  | .bit7E => .cb (.bit 7 .e)
  | .bit7H => .cb (.bit 7 .h)
  | .bit7L => .cb (.bit 7 .l)
  | .bit7AtHL => .cb (.bit 7 .atHL)
  | .bit7A => .cb (.bit 7 .a)
  | .res0B => .cb (.res 0 .b)
  | .res0C => .cb (.res 0 .c)
  | .res0D => .cb (.res 0 .d)
  | .res0E => .cb (.res 0 .e)
  | .res0H => .cb (.res 0 .h)
  | .res0L => .cb (.res 0 .l)
  | .res0AtHL => .cb (.res 0 .atHL)
  | .res0A => .cb (.res 0 .a)
  | .res1B => .cb (.res 1 .b)
  | .res1C => .cb (.res 1 .c)
  | .res1D => .cb (.res 1 .d)
  | .res1E => .cb (.res 1 .e)
  | .res1H => .cb (.res 1 .h)
  | .res1L => .cb (.res 1 .l)
  | .res1AtHL => .cb (.res 1 .atHL)
  | .res1A => .cb (.res 1 .a)
  | .res2B => .cb (.res 2 .b)
  | .res2C => .cb (.res 2 .c)
  | .res2D => .cb (.res 2 .d)
  | .res2E => .cb (.res 2 .e)
  | .res2H => .cb (.res 2 .h)
  | .res2L => .cb (.res 2 .l)
  | .res2AtHL => .cb (.res 2 .atHL)
  | .res2A => .cb (.res 2 .a)
  | .res3B => .cb (.res 3 .b)
  | .res3C => .cb (.res 3 .c)
  | .res3D => .cb (.res 3 .d)
  | .res3E => .cb (.res 3 .e)
  | .res3H => .cb (.res 3 .h)
  | .res3L => .cb (.res 3 .l)
  | .res3AtHL => .cb (.res 3 .atHL)
  | .res3A => .cb (.res 3 .a)
  | .res4B => .cb (.res 4 .b)
  | .res4C => .cb (.res 4 .c)
  | .res4D => .cb (.res 4 .d)
  | .res4E => .cb (.res 4 .e)
  | .res4H => .cb (.res 4 .h)
  | .res4L => .cb (.res 4 .l)
  | .res4AtHL => .cb (.res 4 .atHL)
  | .res4A => .cb (.res 4 .a)
  | .res5B => .cb (.res 5 .b)
  | .res5C => .cb (.res 5 .c)
  | .res5D => .cb (.res 5 .d)
  | .res5E => .cb (.res 5 .e)
  | .res5H => .cb (.res 5 .h)
  | .res5L => .cb (.res 5 .l)
  | .res5AtHL => .cb (.res 5 .atHL)
  | .res5A => .cb (.res 5 .a)
  | .res6B => .cb (.res 6 .b)
  | .res6C => .cb (.res 6 .c)
  | .res6D => .cb (.res 6 .d)
  | .res6E => .cb (.res 6 .e)
  | .res6H => .cb (.res 6 .h)
  | .res6L => .cb (.res 6 .l)
  | .res6AtHL => .cb (.res 6 .atHL)
  | .res6A => .cb (.res 6 .a)
  | .res7B => .cb (.res 7 .b)
  | .res7C => .cb (.res 7 .c)
  | .res7D => .cb (.res 7 .d)
  | .res7E => .cb (.res 7 .e)
  | .res7H => .cb (.res 7 .h)
  | .res7L => .cb (.res 7 .l)
  | .res7AtHL => .cb (.res 7 .atHL)
  | .res7A => .cb (.res 7 .a)
  | .set0B => .cb (.set 0 .b)
  | .set0C => .cb (.set 0 .c)
  | .set0D => .cb (.set 0 .d)
  | .set0E => .cb (.set 0 .e)
  | .set0H => .cb (.set 0 .h)
  | .set0L => .cb (.set 0 .l)
  | .set0AtHL => .cb (.set 0 .atHL)
  | .set0A => .cb (.set 0 .a)
  | .set1B => .cb (.set 1 .b)
  | .set1C => .cb (.set 1 .c)
  | .set1D => .cb (.set 1 .d)
  | .set1E => .cb (.set 1 .e)
  | .set1H => .cb (.set 1 .h)
  | .set1L => .cb (.set 1 .l)
  | .set1AtHL => .cb (.set 1 .atHL)
  | .set1A => .cb (.set 1 .a)
  | .set2B => .cb (.set 2 .b)
  | .set2C => .cb (.set 2 .c)
  | .set2D => .cb (.set 2 .d)
  | .set2E => .cb (.set 2 .e)
  | .set2H => .cb (.set 2 .h)
  | .set2L => .cb (.set 2 .l)
  | .set2AtHL => .cb (.set 2 .atHL)
  | .set2A => .cb (.set 2 .a)
  | .set3B => .cb (.set 3 .b)
  | .set3C => .cb (.set 3 .c)
  | .set3D => .cb (.set 3 .d)
  | .set3E => .cb (.set 3 .e)
  | .set3H => .cb (.set 3 .h)
  | .set3L => .cb (.set 3 .l)
  | .set3AtHL => .cb (.set 3 .atHL)
  | .set3A => .cb (.set 3 .a)
  | .set4B => .cb (.set 4 .b)
  | .set4C => .cb (.set 4 .c)
  | .set4D => .cb (.set 4 .d)
  | .set4E => .cb (.set 4 .e)
  | .set4H => .cb (.set 4 .h)
  | .set4L => .cb (.set 4 .l)
  | .set4AtHL => .cb (.set 4 .atHL)
  | .set4A => .cb (.set 4 .a)
  | .set5B => .cb (.set 5 .b)
  | .set5C => .cb (.set 5 .c)
  | .set5D => .cb (.set 5 .d)
  | .set5E => .cb (.set 5 .e)
  | .set5H => .cb (.set 5 .h)
  | .set5L => .cb (.set 5 .l)
  | .set5AtHL => .cb (.set 5 .atHL)
  | .set5A => .cb (.set 5 .a)
  | .set6B => .cb (.set 6 .b)
  | .set6C => .cb (.set 6 .c)
  | .set6D => .cb (.set 6 .d)
  | .set6E => .cb (.set 6 .e)
  | .set6H => .cb (.set 6 .h)
  | .set6L => .cb (.set 6 .l)
  | .set6AtHL => .cb (.set 6 .atHL)
  | .set6A => .cb (.set 6 .a)
  | .set7B => .cb (.set 7 .b)
  | .set7C => .cb (.set 7 .c)
  | .set7D => .cb (.set 7 .d)
  | .set7E => .cb (.set 7 .e)
  | .set7H => .cb (.set 7 .h)
  | .set7L => .cb (.set 7 .l)
  | .set7AtHL => .cb (.set 7 .atHL)
  | .set7A => .cb (.set 7 .a)

/-- The meaning of a shape, the opcode `k` telling its length and cost. -/
def runForm (k : OpKey) (f : Form) (s : State) : Result :=
  match f with
  | .ld dst src => loadSel k dst src s
  | .ldImm dst n => loadImm k dst n s
  | .ldAInd p => loadAInd k p s
  | .ldIndA p => storeAInd k p s
  | .ldAFrom w => loadAFrom k w s
  | .ldATo w => storeATo k w s
  | .ldPair p nn => loadPair k p nn s
  | .stSp nn => storeSp k nn s
  | .ldSpHl => loadSpHl k s
  | .ldHlSp e => loadHlSp k e s
  | .push p => pushPair k p s
  | .pop p => popPair k p s
  | .alu op src => aluSel k op src s
  | .aluImm op n => aluImm k op n s
  | .inc r => incSel k r s
  | .dec r => decSel k r s
  | .daa => adjustA k s
  | .cpl => complementA k s
  | .scf => setCarry k s
  | .ccf => complementCarry k s
  | .addHl p => addHl k p s
  | .incPair p => incPair k p s
  | .decPair p => decPair k p s
  | .addSp e => addSp k e s
  | .rotA op => accRotate k op s
  | .cb c => runCb k c s
  | .prefixCb sub => runPrefix sub s
  | .jp nn => jumpTo k nn s
  | .jpIf cc nn => jumpIf k cc nn s
  | .jpHl => jumpHl k s
  | .jr e => jumpRel k e s
  | .jrIf cc e => jumpRelIf k cc e s
  | .call nn => callTo k nn s
  | .callIf cc nn => callIf k cc nn s
  | .ret => returnTo k s
  | .retIf cc => returnIf k cc s
  | .reti => returnFromInterrupt s k
  | .rst y => restart k y s
  | .nop => finish s k
  | .halt => enterHalt k s
  | .di => writeIme k false s
  | .ei => writeIme k true s
  | .stop => stopCpu s
  | .illegal op => illegalOp op s

/-- The pair numbered `p` as `rp` (rule R103). -/
def pairOf (p : Nat) : Pair :=
  match p with
  | 0 => .bc
  | 1 => .de
  | 2 => .hl
  | _ => .sp

/-- The pair numbered `p` as `rp2` (rule R103). -/
def stackPairOf (p : Nat) : StackPair :=
  match p with
  | 0 => .bc
  | 1 => .de
  | 2 => .hl
  | _ => .af

/-- The condition numbered `cc` (rule R103). -/
def condOf (cc : Nat) : Cond :=
  match cc with
  | 0 => .nz
  | 1 => .z
  | 2 => .nc
  | _ => .c

/-- The indirect operand numbered `p`. -/
def ptrOf (p : Nat) : Ptr :=
  match p with
  | 0 => .bc
  | 1 => .de
  | 2 => .hlInc
  | _ => .hlDec

/-- The `alu` operation numbered `y` (rule R103). -/
def aluOf (y : Nat) : Alu :=
  match y with
  | 0 => .add
  | 1 => .adc
  | 2 => .sub
  | 3 => .sbc
  | 4 => .and
  | 5 => .xor
  | 6 => .or
  | _ => .cp

/-- Quadrant x = 0, by z, y, p and q (rule R106). -/
def quadrant0 (y z p q : Nat) (n : Byte) (nn : Word) : Form :=
  match z with
  | 0 =>
    match y with
    | 0 => .nop
    | 1 => .stSp nn
    | 2 => .stop
    | 3 => .jr n
    | y => .jrIf (condOf (y % 4)) n
  | 1 => if q = 0 then .ldPair (pairOf p) nn else .addHl (pairOf p)
  | 2 => if q = 0 then .ldIndA (ptrOf p) else .ldAInd (ptrOf p)
  | 3 => if q = 0 then .incPair (pairOf p) else .decPair (pairOf p)
  | 4 => .inc (selOf y)
  | 5 => .dec (selOf y)
  | 6 => .ldImm (selOf y) n
  | _ =>
    match y with
    | 0 => .rotA .rlca
    | 1 => .rotA .rrca
    | 2 => .rotA .rla
    | 3 => .rotA .rra
    | 4 => .daa
    | 5 => .cpl
    | 6 => .scf
    | _ => .ccf

/-- Quadrant x = 3, by z, y, p and q (rule R106). -/
def quadrant3 (op : Byte) (y z p q : Nat) (n : Byte) (nn : Word) : Form :=
  match z with
  | 0 =>
    match y with
    | 4 => .ldATo (.high n)
    | 5 => .addSp n
    | 6 => .ldAFrom (.high n)
    | 7 => .ldHlSp n
    | y => .retIf (condOf y)
  | 1 =>
    if q = 0 then .pop (stackPairOf p)
    else
      match p with
      | 0 => .ret
      | 1 => .reti
      | 2 => .jpHl
      | _ => .ldSpHl
  | 2 =>
    match y with
    | 4 => .ldATo .highC
    | 5 => .ldATo (.abs nn)
    | 6 => .ldAFrom .highC
    | 7 => .ldAFrom (.abs nn)
    | y => .jpIf (condOf y) nn
  | 3 =>
    match y with
    | 0 => .jp nn
    | 1 => .prefixCb n
    | 6 => .di
    | 7 => .ei
    | _ => .illegal op
  | 4 => if y < 4 then .callIf (condOf y) nn else .illegal op
  | 5 =>
    if q = 0 then .push (stackPairOf p)
    else if p = 0 then .call nn
    else .illegal op
  | 6 => .aluImm (aluOf y) n
  | _ => .rst y

/-- The shape of a base opcode by its fields x, y, z, p and q (rules R101, R106), `n` being byte 1 and `nn` bytes 1
and 2. -/
def fieldForm (op b1 b2 : Byte) : Form :=
  let x := op.toNat / 64
  let y := op.toNat / 8 % 8
  let z := op.toNat % 8
  let nn := joinBytes b2 b1
  match x with
  | 0 => quadrant0 y z (y / 2) (y % 2) b1 nn
  | 1 => if op = 0x76 then .halt else .ld (selOf y) (selOf z)
  | 2 => .alu (aluOf y) (selOf z)
  | _ => quadrant3 op y z (y / 2) (y % 2) b1 nn

end Sys2Proof.Machine
end

