-- ==== Sys2Proof/Machine/HostCalls.lean ====
section
/-! DEFINITION. The host interface (rules R460, R461, R470, R500, R456, R400): construction, the display calls, the
framebuffer as the host reads it and the numeric codes of the errors. -/

namespace Sys2Proof.Machine

/-- `INIT_RAM` (rule R8). -/
structure InitRam where
  vram : List Byte
  wram : List Byte
  hram : List Byte
  deriving DecidableEq, Repr

/-- `construct(BOOT, CART, INIT_RAM, params)` (rules R470, R500): LoadError unless the boot image has 256 bytes; the RAM
images are cut to the stores' sizes, and a missing byte reads as an unlisted one. -/
def construct (boot cart : List Byte) (ram : InitRam) (p : Params) : Except LoadError State :=
  if boot.length = 256 then
    .ok
      { State.reset with
        params := p
        mem :=
          { boot := Memory.ofBytes boot, cart := Memory.ofBytes cart, cartSize := cart.length
            vram := Memory.ofBytes (ram.vram.take 8192), wram := Memory.ofBytes (ram.wram.take 8192)
            hram := Memory.ofBytes (ram.hram.take 127), bootEnabled := true } }
  else .error (.bootLength boot.length)

/-- `display.start_frame()`: "sets LY to 0. It changes nothing else" (rule R460). -/
def startFrame (s : State) : State := s.setLcd { s.lcd with ly := 0 }

/-- `display.step()`: `if LY < LY_MAX then LY <- LY + 1` (rule R461). -/
def displayStep (s : State) : State :=
  if s.lcd.ly.toNat < s.params.lyMax.toNat then s.setLcd { s.lcd with ly := s.lcd.ly + 1 } else s

/-- The calls by which the host moves an instance (rule R470); their order is the host's own (rule R471, log 10). -/
inductive HostCall where
  | cpuStep
  | startFrame
  | displayStep
  deriving DecidableEq, Repr

/-- One call of the host. The display calls go on after a fatal error; `cpu.step()` does not (rules R401, R470). -/
def hostCall (c : HostCall) (s : State) : Result :=
  match c with
  | .cpuStep => step s
  | .startFrame => .next (startFrame s)
  | .displayStep => .next (displayStep s)

/-- The shade of pixel (y, x) (rule R456). -/
def Lcd.pixel (l : Lcd) (y x : Nat) : Shade := Memory.read .white l.fb (160 * y + x)

/-- `SHADE_RGBA[shade]` (rule R456). -/
def ShadeRgba.get (c : ShadeRgba) : Shade → BitVec 32
  | .white => c.white
  | .lightGray => c.lightGray
  | .darkGray => c.darkGray
  | .black => c.black

/-- The packed colour the host reads at pixel (y, x) (rule R456). -/
def pixelRgba (s : State) (y x : Nat) : BitVec 32 := s.params.shadeRgba.get (s.lcd.pixel y x)

/-- The numeric code of a fatal error (rule R400). -/
def FatalError.code : FatalError → Nat
  | .unmappedRead _ => 2
  | .decode _ _ _ => 4
  | .unimplemented _ => 5

/-- The numeric code of an event (rule R400). -/
def Event.code : Event → Nat
  | .unmappedWrite _ _ => 3
  | .unimplemented _ => 5

/-- The numeric code of the construction error (rule R400). -/
def LoadError.code : LoadError → Nat
  | .bootLength _ => 1

end Sys2Proof.Machine
end

