-- ==== Sys2Proof/Safety.lean ====
section
/-! DEFINITION. What a well-formed state is, and the words the statements use: what an instruction reads and stores, and
what it leaves alone. -/

namespace Sys2Proof.Machine

/-- `Memory.wf` of the five stores at their sizes (rule R37). -/
def Stores.wf (m : Stores) : Bool :=
  Memory.wf Memory.unlisted 256 m.boot && Memory.wf Memory.unlisted m.cartSize m.cart
    && Memory.wf Memory.unlisted 8192 m.vram && Memory.wf Memory.unlisted 8192 m.wram
    && Memory.wf Memory.unlisted 127 m.hram

/-- The display invariant: the framebuffer is a 160 by 144 picture in canonical form, and every table is what its
palette register decodes to (rules R39, R444, R445). -/
def Lcd.wf (l : Lcd) : Bool :=
  Memory.wf Shade.white (160 * 144) l.fb && decide (l.bgTable = decodeBgp l.bgp)
    && decide (l.obp0Table = decodeObp l.obp0) && decide (l.obp1Table = decodeObp l.obp1)

/-- The state invariant: the stores and the framebuffer keep their canonical forms at their sizes, and the palette tables
match their registers (rules R37, R39, R444, R445). -/
abbrev State.Inv (s : State) : Prop := s.mem.wf = true ∧ s.lcd.wf = true

/-- Where the byte at an address lives: the store and the index in it, or the address itself for a device or a hole. Two
addresses have the same place exactly when they name one byte: WRAM and its mirror (rule R67). -/
def place (m : Stores) (a : Word) : Route × Nat :=
  match route m a with
  | .wram => (.wram, a.toNat - 0xC000)
  | .wramMirror => (.wram, a.toNat - 0xE000)
  | r => (r, a.toNat)

/-- The address is backed by RAM: VRAM, WRAM, the mirror or HRAM (rules R66 to R68). -/
def isRam (m : Stores) (a : Word) : Bool :=
  match route m a with
  | .vram => true
  | .wram => true
  | .wramMirror => true
  | .hram => true
  | _ => false

/-- Storing `v` at `a` is the write that turns the boot overlay off (rule R70). -/
def clearsBoot (m : Stores) (a : Word) (v : Byte) : Bool :=
  decide (route m a = .bootLatch) && decide (v = 1)

/-- Nothing outside the register file, the cycle counter and the draws has changed, and every byte of memory reads as
before. -/
abbrev SameOutside (s t : State) : Prop :=
  t.irq = s.irq ∧ t.mem = s.mem ∧ t.lcd = s.lcd ∧ t.events = s.events ∧ t.halted = s.halted ∧ t.fatal = s.fatal
    ∧ t.params = s.params ∧ ∀ a : Word, read8 t a = read8 s a

/-- The state outside the register file, the cycle counter and the draws is `u`'s: what the bus accesses that lead to `u`
left there. -/
abbrev SameBus (u t : State) : Prop :=
  t.mem = u.mem ∧ t.irq = u.irq ∧ t.lcd = u.lcd ∧ t.events = u.events ∧ t.halted = u.halted ∧ t.fatal = u.fatal
    ∧ t.params = u.params

/-- An instruction that touched no more than registers and added its taken cost (rules R110, R520). -/
abbrev RanOnRegisters (i : Instr) (s t : State) : Prop :=
  SameOutside s t ∧ t.cycles = s.cycles + cyclesOf s.params i.opKey true

/-- The bus writes of a push of `w`: its low byte at SP - 2, then its high byte at SP - 1 (rules R75, R105). -/
def pushed (s : State) (w : Word) : State :=
  write8 (write8 s (s.regs.sp - 2) (loByte w)) (s.regs.sp - 1) (hiByte w)

/-- The value of a register selector, `none` for memory at HL. -/
def Regs.getSel (r : Regs) : Sel → Option Byte
  | .b => some r.b
  | .c => some r.c
  | .d => some r.d
  | .e => some r.e
  | .h => some r.h
  | .l => some r.l
  | .atHL => none
  | .a => some r.a

/-- The registers with a selector's register set; memory at HL is no register. -/
def Regs.setSel (r : Regs) (sel : Sel) (v : Byte) : Regs :=
  match sel with
  | .b => { r with b := v }
  | .c => { r with c := v }
  | .d => { r with d := v }
  | .e => { r with e := v }
  | .h => { r with h := v }
  | .l => { r with l := v }
  | .atHL => r
  | .a => { r with a := v }

/-- What `HN(h, n)` leaves in H and N (rule R27): the two values under `FULL`, the old flags under `ZC_PRESERVE`, and
nothing said under `ZC_DRAW`, where both are free. -/
def HNWritten (p : Params) (before after : Flags) (h n : Bool) : Prop :=
  match p.flagModel with
  | .full => after.h = h ∧ after.n = n
  | .zcPreserve => after.h = before.h ∧ after.n = before.n
  | .zcDraw => True

/-- The flags after an instruction that writes Z, C and `HN(h, n)`. -/
def FlagsWritten (p : Params) (before after : Flags) (z c h n : Bool) : Prop :=
  after.z = z ∧ after.c = c ∧ HNWritten p before after h n

/-- Instruction `i` is the `alu` operation `op` with the operand `v`: a register's value, the byte at HL or an
immediate. -/
def AluOperand (s : State) (i : Instr) (op : Alu) (v : Byte) : Prop :=
  (∃ src, formOf i = .alu op src ∧ get8 s src = .ok v) ∨ formOf i = .aluImm op v

/-- The result and the carry of a CB rotate, shift or SWAP, in the arithmetic of the whole byte: `c` is the carry flag
(rules R305 to R312). -/
def rotated (op : CbRot) (v : Byte) (c : Bool) : Byte × Bool :=
  match op with
  | .rlc => (v.rotateLeft 1, v.msb)
  | .rrc => (v.rotateRight 1, v.getLsbD 0)
  | .rl => (BitVec.ofNat 8 (2 * v.toNat + c.toNat), v.msb)
  | .rr => (BitVec.ofNat 8 (v.toNat / 2 + 128 * c.toNat), v.getLsbD 0)
  | .sla => (BitVec.ofNat 8 (2 * v.toNat), v.msb)
  | .sra => (v.sshiftRight 1, v.getLsbD 0)
  | .swap => (v.rotateLeft 4, false)
  | .srl => (BitVec.ofNat 8 (v.toNat / 2), v.getLsbD 0)

/-- The CB rotate that moves the same bits as an accumulator rotate (rules R300 to R303, R305 to R308). -/
def AccRot.asCb : AccRot → CbRot
  | .rlca => .rlc
  | .rrca => .rrc
  | .rla => .rl
  | .rra => .rr

/-- A request of source `k` is waiting: its counter is not 0 and its IE bit is set, or IE gates nothing (rules R411,
R415). -/
abbrev Waiting (s : State) (k : Source) : Prop :=
  0 < s.irq.pending.count k ∧ (s.params.ieGates = false ∨ s.irq.ie.getLsbD k.index = true)

/-- An instruction of this shape is a jump that is taken, and goes to `w`: the displacement of JR is signed and counts from
the byte after the instruction, mod 2^16 (rules R341 to R345). -/
def JumpsTo (s : State) (f : Form) (w : Word) : Prop :=
  f = .jp w ∨ (∃ cc, f = .jpIf cc w ∧ s.regs.holds cc = true) ∨ (f = .jpHl ∧ w = s.regs.hl)
    ∨ ∃ e : Byte, (f = .jr e ∨ ∃ cc, f = .jrIf cc e ∧ s.regs.holds cc = true)
        ∧ (w.toNat : Int) = ((s.regs.pc.toNat : Int) + 2 + e.toInt) % 65536

/-- Where a call that is taken goes, and its return address (rules R346, R347, R351). -/
def callTarget (s : State) : Form → Option (Word × Word)
  | .call nn => some (nn, s.regs.pc + 3)
  | .callIf cc nn => if s.regs.holds cc then some (nn, s.regs.pc + 3) else none
  | .rst y => some (BitVec.ofNat 16 (8 * y), s.regs.pc + 1)
  | _ => none

/-- The condition of a conditional jump, call or return (rules R342, R345, R347, R349). -/
def condition : Form → Option Cond
  | .jpIf cc _ => some cc
  | .jrIf cc _ => some cc
  | .callIf cc _ => some cc
  | .retIf cc => some cc
  | _ => none

/-- The opcode of the instruction is in the set the decoder accepts (rule R10). -/
def supported (p : Params) (i : Instr) : Bool :=
  match i.opKey with
  | .base op => p.supportedBase.mem op
  | .cb sub => p.supportedCb.mem sub

/-- The address lies where nothing answers: above the cartridge, under no boot ROM, in none of the other ranges of rule
R79. -/
abbrev Hole (m : Stores) (a : Word) : Prop :=
  m.cartSize < a.toNat ∧ ¬(a.toNat < 0x100 ∧ m.bootEnabled = true)
    ∧ (a.toNat ≤ 0x7FFF ∨ (0xA000 ≤ a.toNat ∧ a.toNat ≤ 0xBFFF) ∨ (0xFE00 ≤ a.toNat ∧ a.toNat ≤ 0xFEFF)
      ∨ (0xFF01 ≤ a.toNat ∧ a.toNat ≤ 0xFF0E) ∨ (0xFF10 ≤ a.toNat ∧ a.toNat ≤ 0xFF3F)
      ∨ (0xFF51 ≤ a.toNat ∧ a.toNat ≤ 0xFF7F))

/-- The default cost of an instruction of this shape, when taken and when not taken (rules R520 to R522). -/
def shapeCost : Form → Nat × Nat
  | .ld dst src => if dst = .atHL ∨ src = .atHL then (8, 8) else (4, 4)
  | .ldImm dst _ => if dst = .atHL then (12, 12) else (8, 8)
  | .ldAInd _ => (8, 8)
  | .ldIndA _ => (8, 8)
  | .ldAFrom (.abs _) => (16, 16)
  | .ldAFrom (.high _) => (12, 12)
  | .ldAFrom .highC => (8, 8)
  | .ldATo (.abs _) => (16, 16)
  | .ldATo (.high _) => (12, 12)
  | .ldATo .highC => (8, 8)
  | .ldPair _ _ => (12, 12)
  | .stSp _ => (20, 20)
  | .ldSpHl => (8, 8)
  | .ldHlSp _ => (12, 12)
  | .push _ => (16, 16)
  | .pop _ => (12, 12)
  | .alu _ src => if src = .atHL then (8, 8) else (4, 4)
  | .aluImm _ _ => (8, 8)
  | .inc r => if r = .atHL then (12, 12) else (4, 4)
  | .dec r => if r = .atHL then (12, 12) else (4, 4)
  | .daa => (4, 4)
  | .cpl => (4, 4)
  | .scf => (4, 4)
  | .ccf => (4, 4)
  | .addHl _ => (8, 8)
  | .incPair _ => (8, 8)
  | .decPair _ => (8, 8)
  | .addSp _ => (16, 16)
  | .rotA _ => (4, 4)
  | .cb (.rot _ r) => if r = .atHL then (12, 12) else (8, 8)
  | .cb (.bit _ r) => if r = .atHL then (12, 12) else (8, 8)
  | .cb (.res _ r) => if r = .atHL then (12, 12) else (8, 8)
  | .cb (.set _ r) => if r = .atHL then (12, 12) else (8, 8)
  | .prefixCb sub => if sub.toNat % 8 = 6 then (12, 12) else (8, 8)
  | .jp _ => (16, 16)
  | .jpIf _ _ => (16, 12)
  | .jpHl => (4, 4)
  | .jr _ => (12, 12)
  | .jrIf _ _ => (12, 8)
  | .call _ => (24, 24)
  | .callIf _ _ => (24, 12)
  | .ret => (16, 16)
  | .retIf _ => (20, 8)
  | .reti => (16, 16)
  | .rst _ => (16, 16)
  | .nop => (4, 4)
  | .di => (4, 4)
  | .ei => (4, 4)
  | .halt => (4, 4)
  | .stop => (4, 4)
  | .illegal _ => (0, 0)

/-- The colour index at column `px` and row `py` of the tile that a render draws at tile row `i` and tile column `j`, in the
arithmetic of the bytes (rules R451, R453, R455). -/
def tileIndex (s : State) (i j px py : Nat) : Nat :=
  let row := (s.lcd.scy.toNat / 8 + i) % 32
  let col := (s.lcd.scx.toNat / 8 + j) % 32
  let map := if s.lcd.lcdc.getLsbD 3 then 0x1C00 else 0x1800
  let t := (readByte s.mem.vram (map + 32 * row + col)).toNat
  let lo := readByte s.mem.vram (16 * t + 2 * py)
  let hi := readByte s.mem.vram (16 * t + 2 * py + 1)
  2 * (hi.toNat / 2 ^ (7 - px) % 2) + lo.toNat / 2 ^ (7 - px) % 2

/-- The tile rows and tile columns that a render with this margin draws over the screen's tile (i, j), in loop order: the
framebuffer is 18 tiles high and 20 wide, and what lies beyond wraps (rules R453, R454). -/
def drawnOver (margin i j : Nat) : List (Nat × Nat) :=
  ((List.range (18 + margin)).filter fun i' => i' % 18 = i).flatMap fun i' =>
    ((List.range (20 + margin)).filter fun j' => j' % 20 = j).map fun j' => (i', j')

/-- The index of a shade, 0 to 3 (rule R39). -/
def Shade.index : Shade → Nat
  | .white => 0
  | .lightGray => 1
  | .darkGray => 2
  | .black => 3

/-- SP is written by an instruction of this shape (rule R22). -/
def writesSp : Form → Bool
  | .ldPair .sp _ => true
  | .ldSpHl => true
  | .addSp _ => true
  | .incPair .sp => true
  | .decPair .sp => true
  | .push _ => true
  | .pop _ => true
  | .call _ => true
  | .callIf _ _ => true
  | .ret => true
  | .retIf _ => true
  | .reti => true
  | .rst _ => true
  | _ => false

/-- The address of an instruction's first data read, if it reads memory. -/
def dataRead (s : State) : Form → Option Word
  | .ld _ .atHL => some s.regs.hl
  | .ldAInd p => some (s.regs.ptr p)
  | .ldAFrom w => some (s.regs.absAddr w)
  | .alu _ .atHL => some s.regs.hl
  | .inc .atHL => some s.regs.hl
  | .dec .atHL => some s.regs.hl
  | .cb (.rot _ .atHL) => some s.regs.hl
  | .cb (.bit _ .atHL) => some s.regs.hl
  | .cb (.res _ .atHL) => some s.regs.hl
  | .cb (.set _ .atHL) => some s.regs.hl
  | _ => none

/-- The address of an instruction's 16-bit data read, if it pops. -/
def dataRead16 (s : State) : Form → Option Word
  | .pop _ => some s.regs.sp
  | .ret => some s.regs.sp
  | .reti => some s.regs.sp
  | .retIf cc => if s.regs.holds cc then some s.regs.sp else none
  | _ => none

/-- The address and value of an instruction that stores one byte without reading memory. -/
def byteStore (s : State) : Form → Option (Word × Byte)
  | .ld .atHL src => (s.regs.getSel src).map fun v => (s.regs.hl, v)
  | .ldImm .atHL n => some (s.regs.hl, n)
  | .ldIndA p => some (s.regs.ptr p, s.regs.a)
  | .ldATo w => some (s.regs.absAddr w, s.regs.a)
  | _ => none

/-- The byte an instruction stores back at HL when it has read `v` there. -/
def byteUpdate (s : State) (v : Byte) : Form → Option Byte
  | .inc .atHL => some (v + 1)
  | .dec .atHL => some (v - 1)
  | .cb (.rot op .atHL) => some (op.eval v s.regs.flags.c).res
  | .cb (.res b .atHL) => some (v &&& ~~~bitMask b)
  | .cb (.set b .atHL) => some (v ||| bitMask b)
  | _ => none

/-- The address and value of an instruction that stores two bytes, low byte first. -/
def wordStore (s : State) : Form → Option (Word × Word)
  | .stSp nn => some (nn, s.regs.sp)
  | .push p => some (s.regs.sp - 2, s.regs.stackPair p)
  | .call _ => some (s.regs.sp - 2, s.regs.pc + 3)
  | .callIf cc _ => if s.regs.holds cc then some (s.regs.sp - 2, s.regs.pc + 3) else none
  | .rst _ => some (s.regs.sp - 2, s.regs.pc + 1)
  | _ => none

/-- The instruction stores nothing in this state. The prefix stands for the instruction its sub-opcode selects. -/
def storesNothing (s : State) (f : Form) : Prop :=
  byteStore s f = none ∧ byteUpdate s 0 f = none ∧ wordStore s f = none ∧ ∀ sub, f ≠ .prefixCb sub

end Sys2Proof.Machine
end

