-- ==== Sys2Proof/Certificates/Slice0/Obligations.lean ====
section
/-! DEFINITION. The statements for the provers, from the numbered rules of spec/. A statement about a shape of
`formOf` is a statement about every constructor that has that shape. -/

open Sys2Proof Sys2Proof.Machine

/-! ### Encoding -/

/-- Decoding the bytes of a well-formed instruction, whatever follows them, gives it back and leaves what follows
(rules R100, R104, R108, R113). -/
def Obligations.DecodeOfEncodeIsInstr : Prop :=
  ∀ (i : Instr), i.WellFormed → ∀ rest : List Byte, decode (encode i ++ rest) = .ok (i, rest)

/-- The bytes the decoder takes are the bytes of the instruction it gives, so no bit of an encoding is dropped; STOP
alone leaves its second byte unchecked (rules R100, R108, R364). -/
def Obligations.EncodeOfDecodeIsBytes : Prop :=
  ∀ (bytes rest : List Byte) (i : Instr), decode bytes = .ok (i, rest) → i ≠ .stop →
    i.WellFormed ∧ encode i ++ rest = bytes

/-- The two maps of rule R108, which decoding uses, and the fields x, y, z, p, q of rules R101 to R107 name the same
operation with the same operands for every byte. -/
def Obligations.MapsAgreeWithFields : Prop :=
  (∀ op b1 b2 : Byte, op ≠ 0xCB → formOf (baseInstr op b1 b2) = fieldForm op b1 b2)
    ∧ ∀ sub : Byte, formOf (cbInstr sub) = .cb (cbFields sub)

/-- Words written out from the spec's encodings decode to the instructions they stand for, one or more of every file 40
to 46. -/
def Obligations.SampleWordsDecode : Prop :=
  decode [0x48] = .ok (.ldCB, []) ∧ decode [0x36, 0x07] = .ok (.ldAtHLImm 0x07, [])
    ∧ decode [0xEA, 0x43, 0xFF] = .ok (.ldAtImm16A 0xFF43, [])
    ∧ decode [0x31, 0xFE, 0xFF] = .ok (.ldSPImm16 0xFFFE, []) ∧ decode [0xD6, 0x0F] = .ok (.subImm 0x0F, [])
    ∧ decode [0x39] = .ok (.addHLSP, []) ∧ decode [0xCB, 0x7C] = .ok (.bit7H, [])
    ∧ decode [0xCD, 0x00, 0x02] = .ok (.callImm16 0x0200, []) ∧ decode [0x20, 0xFB] = .ok (.jrNZDisp 0xFB, [])
    ∧ decode [0xFB] = .ok (.ei, []) ∧ decode [0xDD] = .ok (.illegal 0xDD, [])

/-- An instruction is 1, 2 or 3 bytes, and the length by which PC moves past it is the number of bytes its encoding has; a
CB instruction is the prefix and its sub-opcode (rule R100). With no cell replaced, the cost of every instruction is its
cell of the table, taken and not taken: `shapeCost` gives the cells by shape (PUSH 16, POP 12, RST 16, JR cc 12 or 8, an
illegal byte 0); a CB instruction costs 8, and 4 more with (HL) (rules R520 to R522). -/
def Obligations.LengthsAndDefaultCosts : Prop :=
  (∀ i : Instr, i.WellFormed →
    (encode i).length = i.opKey.length ∧ 1 ≤ (encode i).length ∧ (encode i).length ≤ 3
      ∧ (∀ sub, i.opKey = .cb sub → encode i = [0xCB, sub]))
  ∧ ∀ (p : Params) (taken : Bool), p.cycles = [] →
    (∀ sub : Byte, cyclesOf p (.cb sub) taken = if sub.toNat % 8 = 6 then 12 else 8)
      ∧ ∀ i : Instr, i.WellFormed →
          cyclesOf p i.opKey taken = if taken then (shapeCost (formOf i)).1 else (shapeCost (formOf i)).2

/-- The prefix with a supported sub-opcode is the instruction that the sub-opcode's row names, and completes where that one
does: for a register operand always, for (HL) where the byte at HL can be read; PC moves on by 2. With an unsupported
sub-opcode it is a DecodeError at PC and nothing else (rules R304, R366; what the row PREFIX CB stands for is log 13, that
the fatal mark stands in a next state is log 1). -/
def Obligations.PrefixRunsSelectedInstr : Prop :=
  ∀ (sub : Byte) (s : State),
    (s.params.supportedCb.mem sub = true → exec (.prefixCb sub) s = exec (cbInstr sub) s)
      ∧ (s.params.supportedCb.mem sub = true → (sub.toNat % 8 = 6 → ∃ v, read8 s s.regs.hl = .ok v) →
          ∃ t, exec (.prefixCb sub) s = .next t ∧ exec (cbInstr sub) s = .next t ∧ t.regs.pc = s.regs.pc + 2
            ∧ t.fatal = s.fatal ∧ t.cycles = s.cycles + cyclesOf s.params (.cb sub) true)
      ∧ (s.params.supportedCb.mem sub = false →
          exec (.prefixCb sub) s = .next (s.raise (.decode s.regs.pc 0xCB (some sub))))

/-! ### 8-bit loads -/

/-- LD r,r', LD r,(HL) and LD r,n put the operand's byte in the register, leave every other register, every flag and all of
memory, and move PC on by the instruction's length (rules R200 to R202). -/
def Obligations.LoadRegisterCompletes : Prop :=
  ∀ (i : Instr) (dst : Sel) (s : State) (v : Byte),
    (∃ src, formOf i = .ld dst src ∧ get8 s src = .ok v) ∨ formOf i = .ldImm dst v → dst ≠ .atHL →
      ∃ t, exec i s = .next t
        ∧ t.regs = { s.regs.setSel dst v with pc := s.regs.pc + (if formOf i = .ldImm dst v then 2 else 1) }
        ∧ RanOnRegisters i s t ∧ t.draws = s.draws

/-- LD A,(BC), (DE), (HL+), (HL-) load A from the address in the pair; the last two then move HL by one, mod 2^16
(rules R205, R206, R217, R218). -/
def Obligations.LoadAIndirectCompletes : Prop :=
  ∀ (i : Instr) (p : Ptr) (a hl : Word) (s : State) (v : Byte),
    formOf i = .ldAInd p →
    (p = .bc → a = s.regs.bc ∧ hl = s.regs.hl) → (p = .de → a = s.regs.de ∧ hl = s.regs.hl) →
    (p = .hlInc → a = s.regs.hl ∧ hl = s.regs.hl + 1) → (p = .hlDec → a = s.regs.hl ∧ hl = s.regs.hl - 1) →
    read8 s a = .ok v →
      ∃ t, exec i s = .next t
        ∧ t.regs = { s.regs with a := v, h := hiByte hl, l := loByte hl, pc := s.regs.pc + 1 } ∧ RanOnRegisters i s t
        ∧ t.draws = s.draws

/-- LD A,(nn), LDH A,(n), LD A,(C) load A from `nn`, `0xFF00 + n`, `0xFF00 + C` and change nothing else but PC and the
cycles (rules R209, R211, R213). -/
def Obligations.LoadADirectCompletes : Prop :=
  ∀ (i : Instr) (w : AbsAddr) (a : Word) (s : State) (v : Byte),
    formOf i = .ldAFrom w →
    (∀ nn, w = .abs nn → a = nn) → (∀ n, w = .high n → a.toNat = 0xFF00 + n.toNat) →
    (w = .highC → a.toNat = 0xFF00 + s.regs.c.toNat) → read8 s a = .ok v →
      ∃ t, exec i s = .next t
        ∧ t.regs = { s.regs with a := v, pc := s.regs.pc + BitVec.ofNat 16 i.opKey.length } ∧ RanOnRegisters i s t
        ∧ t.draws = s.draws

/-- Every instruction that stores one byte it did not read (LD (HL),r; LD (HL),n; LD (BC), (DE), (HL+), (HL-),A; LD (nn),A;
LDH (n),A; LD (C),A) completes in every state, whatever the route of its address: the bus write of the byte at the
address, HL's step for (HL+) and (HL-), PC on by its length, no flag (rules R203, R204, R207, R208, R210, R212, R214,
R215, R216). -/
def Obligations.StoreByteCompletes : Prop :=
  ∀ (i : Instr) (s : State) (a : Word) (v : Byte), byteStore s (formOf i) = some (a, v) →
    ∃ t, exec i s = .next t ∧ SameBus (write8 s a v) t
      ∧ t.regs.pc = s.regs.pc + BitVec.ofNat 16 i.opKey.length
      ∧ (formOf i = .ldIndA .hlInc → t.regs.hl = s.regs.hl + 1)
      ∧ (formOf i = .ldIndA .hlDec → t.regs.hl = s.regs.hl - 1)
      ∧ (formOf i ≠ .ldIndA .hlInc → formOf i ≠ .ldIndA .hlDec → t.regs.hl = s.regs.hl)
      ∧ t.regs.a = s.regs.a ∧ t.regs.flags = s.regs.flags ∧ t.regs.bc = s.regs.bc ∧ t.regs.de = s.regs.de
      ∧ t.regs.sp = s.regs.sp ∧ t.cycles = s.cycles + cyclesOf s.params i.opKey true ∧ t.draws = s.draws

/-- The frame of an instruction that stores one byte it did not read: every address that does not name the stored byte reads
as before, but that a store of 1 to `0xFF50` uncovers what lies under the boot ROM (rules R60, R62, R70, R73). -/
def Obligations.StoreByteLeavesOtherBytes : Prop :=
  ∀ (i : Instr) (s t : State) (a b : Word) (v : Byte), byteStore s (formOf i) = some (a, v) →
    exec i s = .next t → place s.mem b ≠ place s.mem a →
    (clearsBoot s.mem a v = false ∨ 0x100 ≤ b.toNat) → read8 t b = read8 s b

/-- The frame of an instruction that reads the byte at HL and stores it back changed (INC (HL), DEC (HL), the CB rotates,
RES and SET on (HL)): every address that does not name the byte at HL reads as before; the read of `0xFF50` faults, so the
store that turns the boot ROM off is never made (rules R61, R269, R304). -/
def Obligations.UpdateByteLeavesOtherBytes : Prop :=
  ∀ (i : Instr) (s t : State) (b : Word) (v w : Byte), read8 s s.regs.hl = .ok v →
    byteUpdate s v (formOf i) = some w → exec i s = .next t → place s.mem b ≠ place s.mem s.regs.hl →
    read8 t b = read8 s b

/-- The frame of an instruction that stores two bytes (LD (nn),SP, PUSH, CALL, RST): every address that names neither
stored byte reads as before, unless one of the two stores uncovers what lies under the boot ROM (rules R62, R75, R105). -/
def Obligations.StoreWordLeavesOtherBytes : Prop :=
  ∀ (i : Instr) (s t : State) (a b w : Word), wordStore s (formOf i) = some (a, w) → exec i s = .next t →
    place s.mem b ≠ place s.mem a → place s.mem b ≠ place s.mem (a + 1) →
    ((clearsBoot s.mem a (loByte w) = false ∧ clearsBoot s.mem (a + 1) (hiByte w) = false) ∨ 0x100 ≤ b.toNat) →
    read8 t b = read8 s b

/-- The frame of every instruction that stores nothing: all of memory, the devices and the interrupt mask read as before,
and the stores, the display and the pending counters are unchanged (rules R61, R73). -/
def Obligations.StorelessLeavesMemory : Prop :=
  ∀ (i : Instr) (s t : State), storesNothing s (formOf i) → exec i s = .next t →
    t.mem = s.mem ∧ t.lcd = s.lcd ∧ t.irq.pending = s.irq.pending ∧ t.irq.ie = s.irq.ie ∧ t.events = s.events
      ∧ t.params = s.params ∧ ∀ a : Word, read8 t a = read8 s a

/-! ### 16-bit loads and the stack -/

/-- LD rr,nn sets the pair to the immediate, PC on by 3, and LD SP,HL copies HL to SP, PC on by 1; no other register and no
flag (rules R230, R232). -/
def Obligations.LoadPairCompletes : Prop :=
  ∀ (i : Instr) (p : Pair) (w : Word) (s : State),
    formOf i = .ldPair p w ∨ (formOf i = .ldSpHl ∧ p = .sp ∧ w = s.regs.hl) →
    ∃ t, exec i s = .next t
      ∧ t.regs = { s.regs.setPair p w with pc := s.regs.pc + (if formOf i = .ldSpHl then 1 else 3) }
      ∧ t.regs.pair p = w ∧ (∀ q, q ≠ p → t.regs.pair q = s.regs.pair q) ∧ RanOnRegisters i s t
      ∧ t.draws = s.draws

/-- LD (nn),SP completes in every state: SP's low byte at `nn`, then its high byte at `nn + 1`, each by its own route, no
register but PC, no flag (rules R75, R231). -/
def Obligations.StoreSpCompletes : Prop :=
  ∀ (i : Instr) (nn : Word) (s : State), formOf i = .stSp nn →
    ∃ t, exec i s = .next t
      ∧ SameBus (write8 (write8 s nn (loByte s.regs.sp)) (nn + 1) (hiByte s.regs.sp)) t
      ∧ t.regs = { s.regs with pc := s.regs.pc + 3 }
      ∧ t.cycles = s.cycles + cyclesOf s.params i.opKey true ∧ t.draws = s.draws

/-- LD HL,SP+e and ADD SP,e: the sum of SP and the signed displacement to HL or SP, Z cleared, C and H the carries of the
unsigned add of SP's low byte and the displacement byte, even for a negative displacement (rules R233, R283). -/
def Obligations.SpPlusDisplacementCompletes : Prop :=
  ∀ (i : Instr) (e : Byte) (s : State), formOf i = .ldHlSp e ∨ formOf i = .addSp e →
    ∃ t, exec i s = .next t
      ∧ (let sum := BitVec.ofInt 16 ((s.regs.sp.toNat : Int) + e.toInt)
         (formOf i = .ldHlSp e → t.regs.hl = sum ∧ t.regs.sp = s.regs.sp)
           ∧ (formOf i = .addSp e → t.regs.sp = sum ∧ t.regs.hl = s.regs.hl))
      ∧ FlagsWritten s.params s.regs.flags t.regs.flags false
          (decide (0xFF < s.regs.sp.toNat % 256 + e.toNat)) (decide (0x0F < s.regs.sp.toNat % 16 + e.toNat % 16)) false
      ∧ t.regs.a = s.regs.a ∧ t.regs.bc = s.regs.bc ∧ t.regs.de = s.regs.de ∧ t.regs.pc = s.regs.pc + 2
      ∧ RanOnRegisters i s t

/-- PUSH qq: SP goes down by 2, then the pair's low byte is stored at the new SP and its high byte one above, each by its
own route; no other register but PC, no flag (rules R105, R234). -/
def Obligations.PushCompletes : Prop :=
  ∀ (i : Instr) (p : StackPair) (s : State), formOf i = .push p →
    ∃ t, exec i s = .next t
      ∧ t.regs = { s.regs with sp := s.regs.sp - 2, pc := s.regs.pc + 1 }
      ∧ SameBus (write8 (write8 s (s.regs.sp - 2) (loByte (s.regs.stackPair p))) (s.regs.sp - 1)
          (hiByte (s.regs.stackPair p))) t
      ∧ t.cycles = s.cycles + cyclesOf s.params i.opKey true ∧ t.draws = s.draws

/-- POP qq with both stack bytes readable: the pair gets the byte at SP + 1 above the byte at SP, SP goes up by 2; POP AF
loads all four flags under every flag model, and F's bits 3..0 read 0 (rules R105, R235, R236). -/
def Obligations.PopCompletes : Prop :=
  ∀ (i : Instr) (p : StackPair) (s : State) (lo hi : Byte), formOf i = .pop p →
    read8 s s.regs.sp = .ok lo → read8 s (s.regs.sp + 1) = .ok hi →
    ∃ t, exec i s = .next t
      ∧ t.regs.sp = s.regs.sp + 2 ∧ t.regs.pc = s.regs.pc + 1
      ∧ t.regs.stackPair p = (if p = .af then joinBytes hi (lo &&& 0xF0) else joinBytes hi lo)
      ∧ (∀ q, q ≠ p → t.regs.stackPair q = s.regs.stackPair q)
      ∧ RanOnRegisters i s t ∧ t.draws = s.draws

/-- The round trip: PUSH qq, then POP qq', with the two stack bytes in RAM, leaves SP as it was and puts qq in qq' (F's low
nibble 0 where qq' is AF) (rule R235, "Round trip"). -/
def Obligations.PushThenPopRoundTrip : Prop :=
  ∀ (i j : Instr) (p q : StackPair) (s : State), s.Inv → formOf i = .push p → formOf j = .pop q →
    isRam s.mem (s.regs.sp - 2) = true → isRam s.mem (s.regs.sp - 1) = true →
    ∃ t u, exec i s = .next t ∧ exec j t = .next u ∧ u.regs.sp = s.regs.sp
      ∧ (q ≠ .af → u.regs.stackPair q = s.regs.stackPair p)
      ∧ (q = .af → u.regs.stackPair q = s.regs.stackPair p &&& 0xFFF0)

/-! ### 8-bit arithmetic and logic -/

/-- ADD and ADC, of a register, the byte at HL or an immediate: A becomes the sum mod 256 (ADC adds the carry flag), Z by the
zero rule, C the carry out of bit 7, H out of bit 3, N cleared, H and N as the flag model says; no other register but PC,
nothing in memory (rules R250, R252 to R255). -/
def Obligations.AddCompletes : Prop :=
  ∀ (i : Instr) (op : Alu) (v : Byte) (s : State), op = .add ∨ op = .adc → AluOperand s i op v →
    ∃ t, exec i s = .next t
      ∧ (let cin := (decide (op = .adc) && s.regs.flags.c).toNat
         let sum := s.regs.a.toNat + v.toNat + cin
         t.regs.a.toNat = sum % 256
           ∧ FlagsWritten s.params s.regs.flags t.regs.flags (decide (sum % 256 = 0)) (decide (255 < sum))
              (decide (15 < s.regs.a.toNat % 16 + v.toNat % 16 + cin)) false)
      ∧ t.regs = { s.regs with
          a := t.regs.a, flags := t.regs.flags, pc := s.regs.pc + BitVec.ofNat 16 i.opKey.length }
      ∧ RanOnRegisters i s t

/-- SUB, SBC and CP, of a register, the byte at HL or an immediate: the difference mod 256 (SBC subtracts the carry flag too)
goes to A, but CP leaves A; Z by the zero rule, C the borrow out of bit 7, H out of bit 3, N set, H and N as the flag model
says; no other register but PC, nothing in memory (rules R251, R256 to R259, R266, R267). -/
def Obligations.SubtractCompletes : Prop :=
  ∀ (i : Instr) (op : Alu) (v : Byte) (s : State), op = .sub ∨ op = .sbc ∨ op = .cp → AluOperand s i op v →
    ∃ t, exec i s = .next t
      ∧ (let cin := (decide (op = .sbc) && s.regs.flags.c).toNat
         let diff : Int := (s.regs.a.toNat : Int) - v.toNat - cin
         (op = .cp → t.regs.a = s.regs.a) ∧ (op ≠ .cp → (t.regs.a.toNat : Int) = diff % 256)
           ∧ FlagsWritten s.params s.regs.flags t.regs.flags (decide (diff % 256 = 0))
              (decide (s.regs.a.toNat < v.toNat + cin)) (decide (s.regs.a.toNat % 16 < v.toNat % 16 + cin)) true)
      ∧ t.regs = { s.regs with
          a := t.regs.a, flags := t.regs.flags, pc := s.regs.pc + BitVec.ofNat 16 i.opKey.length }
      ∧ RanOnRegisters i s t

/-- AND, XOR and OR, of a register, the byte at HL or an immediate: A becomes the result, Z by the zero rule, C cleared, N
cleared, H set by AND and cleared by XOR and OR, H and N as the flag model says; no other register but PC, nothing in memory
(rules R260 to R265). -/
def Obligations.LogicCompletes : Prop :=
  ∀ (i : Instr) (op : Alu) (v : Byte) (s : State), op = .and ∨ op = .xor ∨ op = .or → AluOperand s i op v →
    ∃ t, exec i s = .next t
      ∧ (op = .and → t.regs.a = s.regs.a &&& v) ∧ (op = .xor → t.regs.a = s.regs.a ^^^ v)
      ∧ (op = .or → t.regs.a = s.regs.a ||| v)
      ∧ FlagsWritten s.params s.regs.flags t.regs.flags (decide (t.regs.a = 0)) false (decide (op = .and)) false
      ∧ t.regs = { s.regs with
          a := t.regs.a, flags := t.regs.flags, pc := s.regs.pc + BitVec.ofNat 16 i.opKey.length }
      ∧ RanOnRegisters i s t

/-- INC r and DEC r: the register goes up or down by one mod 256, Z by the zero rule, H the half carry or half borrow, N 0 or
1, as the flag model says, C unaffected; no other register but PC (rules R268, R270). -/
def Obligations.IncDecRegisterCompletes : Prop :=
  ∀ (i : Instr) (r : Sel) (v : Byte) (s : State), s.regs.getSel r = some v →
    (formOf i = .inc r →
      ∃ t, exec i s = .next t
        ∧ t.regs = { s.regs.setSel r (v + 1) with flags := t.regs.flags, pc := s.regs.pc + 1 }
        ∧ FlagsWritten s.params s.regs.flags t.regs.flags (decide (v.toNat = 255)) s.regs.flags.c
            (decide (v.toNat % 16 = 15)) false
        ∧ RanOnRegisters i s t)
      ∧ (formOf i = .dec r →
          ∃ t, exec i s = .next t
            ∧ t.regs = { s.regs.setSel r (v - 1) with flags := t.regs.flags, pc := s.regs.pc + 1 }
            ∧ FlagsWritten s.params s.regs.flags t.regs.flags (decide (v.toNat = 1)) s.regs.flags.c
                (decide (v.toNat % 16 = 0)) true
            ∧ RanOnRegisters i s t)

/-- INC (HL), DEC (HL), the CB rotates, shifts and SWAP on (HL), RES b,(HL) and SET b,(HL), where the byte at HL can be
read: the new byte goes back to HL through the bus, the flags are those of the register form (none for RES and SET), no
register but F and PC changes (rules R269, R271, R304 to R312, R314, R315). -/
def Obligations.UpdateByteCompletes : Prop :=
  ∀ (i : Instr) (v w : Byte) (s : State), read8 s s.regs.hl = .ok v → byteUpdate s v (formOf i) = some w →
    ∃ t, exec i s = .next t ∧ SameBus (write8 s s.regs.hl w) t
      ∧ t.regs = { s.regs with flags := t.regs.flags, pc := s.regs.pc + BitVec.ofNat 16 i.opKey.length }
      ∧ t.cycles = s.cycles + cyclesOf s.params i.opKey true
      ∧ (formOf i = .inc .atHL → w.toNat = (v.toNat + 1) % 256
          ∧ FlagsWritten s.params s.regs.flags t.regs.flags (decide (w = 0)) s.regs.flags.c
              (decide (v.toNat % 16 = 15)) false)
      ∧ (formOf i = .dec .atHL → w.toNat = (v.toNat + 255) % 256
          ∧ FlagsWritten s.params s.regs.flags t.regs.flags (decide (w = 0)) s.regs.flags.c
              (decide (v.toNat % 16 = 0)) true)
      ∧ (∀ op, formOf i = .cb (.rot op .atHL) → w = (rotated op v s.regs.flags.c).1
          ∧ FlagsWritten s.params s.regs.flags t.regs.flags (decide (w = 0)) (rotated op v s.regs.flags.c).2 false false)
      ∧ (∀ b, formOf i = .cb (.res b .atHL) → t.regs.flags = s.regs.flags
          ∧ ∀ k, w.getLsbD k = (v.getLsbD k && decide (k ≠ b.val)))
      ∧ (∀ b, formOf i = .cb (.set b .atHL) → t.regs.flags = s.regs.flags
          ∧ ∀ k, w.getLsbD k = (v.getLsbD k || decide (k = b.val)))

/-- DAA under `FULL`: after an add (N = 0) A gains 0x60 when C is set or A is above 0x99, then 0x06 when H is set or the low
digit is above 9; after a subtract (N = 1) A loses 0x60 when C is set and 0x06 when H is set; Z by the zero rule, H cleared,
N as it was, C set by the 0x60 after an add and as it was after a subtract. Under the other flag models DAA is a fatal
UnimplementedFeatureError and changes nothing (rule R272; the fatal mark is in the next state, log 1). -/
def Obligations.DaaAdjustsOrIsRefused : Prop :=
  ∀ s : State,
    (s.params.flagModel = .full →
      ∃ t, exec .daa s = .next t
        ∧ (let g := s.regs.flags
           let high := g.c || decide (0x99 < s.regs.a.toNat)
           let low := g.h || decide (9 < s.regs.a.toNat % 16)
           (g.n = false →
              t.regs.a.toNat = (s.regs.a.toNat + 0x60 * high.toNat + 0x06 * low.toNat) % 256 ∧ t.regs.flags.c = high)
            ∧ (g.n = true →
                (t.regs.a.toNat : Int) = ((s.regs.a.toNat : Int) - 0x60 * g.c.toNat - 0x06 * g.h.toNat) % 256
                  ∧ t.regs.flags.c = g.c)
            ∧ t.regs.flags.z = decide (t.regs.a = 0) ∧ t.regs.flags.h = false ∧ t.regs.flags.n = g.n)
        ∧ t.regs = { s.regs with a := t.regs.a, flags := t.regs.flags, pc := s.regs.pc + 1 }
        ∧ RanOnRegisters .daa s t)
      ∧ (s.params.flagModel ≠ .full → exec .daa s = .next (s.raise (.unimplemented .daa)))

/-- What DAA is for: under `FULL`, adding two packed decimal bytes with ADD A,n and then adjusting with DAA gives the packed
decimal sum mod 100, and C tells whether the sum passed 99 (rules R253, R272). -/
def Obligations.AddThenDaaIsDecimalSum : Prop :=
  ∀ (x y : Nat) (s : State), x < 100 → y < 100 → s.params.flagModel = .full →
    s.regs.a = BitVec.ofNat 8 (16 * (x / 10) + x % 10) →
    ∃ t u, exec (.addAImm (BitVec.ofNat 8 (16 * (y / 10) + y % 10))) s = .next t ∧ exec .daa t = .next u
      ∧ u.regs.a.toNat = 16 * ((x + y) % 100 / 10) + (x + y) % 10 ∧ u.regs.flags.c = decide (100 ≤ x + y)

/-- CPL complements A, SCF sets C, CCF inverts C; Z is unaffected by all three and C by CPL; H and N get (1, 1), (0, 0) and
(0, 0) as the flag model says; no other register but PC, nothing in memory, no error; their bytes are 0x2F, 0x37 and 0x3F
(rules R273 to R275). -/
def Obligations.ComplementAndCarryComplete : Prop :=
  (encode .cpl = [0x2F] ∧ encode .scf = [0x37] ∧ encode .ccf = [0x3F]) ∧ ∀ s : State,
    (∃ t, exec .cpl s = .next t
        ∧ t.regs = { s.regs with a := t.regs.a, flags := t.regs.flags, pc := s.regs.pc + 1 }
        ∧ t.regs.a.toNat = 255 - s.regs.a.toNat
        ∧ FlagsWritten s.params s.regs.flags t.regs.flags s.regs.flags.z s.regs.flags.c true true
        ∧ RanOnRegisters .cpl s t)
      ∧ (∃ t, exec .scf s = .next t ∧ t.regs = { s.regs with flags := t.regs.flags, pc := s.regs.pc + 1 }
          ∧ FlagsWritten s.params s.regs.flags t.regs.flags s.regs.flags.z true false false
          ∧ RanOnRegisters .scf s t)
      ∧ (∃ t, exec .ccf s = .next t ∧ t.regs = { s.regs with flags := t.regs.flags, pc := s.regs.pc + 1 }
          ∧ FlagsWritten s.params s.regs.flags t.regs.flags s.regs.flags.z (!s.regs.flags.c) false false
          ∧ RanOnRegisters .ccf s t)

/-! ### 16-bit arithmetic -/

/-- ADD HL,rr: HL becomes the sum mod 2^16, Z unaffected, C the carry out of bit 15, H out of bit 11, N cleared, H and N as
the flag model says; no other register but PC (rule R280). -/
def Obligations.AddHlCompletes : Prop :=
  ∀ (i : Instr) (p : Pair) (s : State), formOf i = .addHl p →
    ∃ t, exec i s = .next t
      ∧ t.regs.hl.toNat = (s.regs.hl.toNat + (s.regs.pair p).toNat) % 65536
      ∧ FlagsWritten s.params s.regs.flags t.regs.flags s.regs.flags.z
          (decide (0xFFFF < s.regs.hl.toNat + (s.regs.pair p).toNat))
          (decide (0x0FFF < s.regs.hl.toNat % 4096 + (s.regs.pair p).toNat % 4096)) false
      ∧ t.regs = { s.regs with h := t.regs.h, l := t.regs.l, flags := t.regs.flags, pc := s.regs.pc + 1 }
      ∧ RanOnRegisters i s t

/-- INC rr and DEC rr move the pair up or down by one mod 2^16 and change no flag, no other register but PC and no memory,
SP among the pairs (rules R281, R282). -/
def Obligations.IncDecPairCompletes : Prop :=
  ∀ (i : Instr) (p : Pair) (s : State), formOf i = .incPair p ∨ formOf i = .decPair p →
    ∃ t, exec i s = .next t
      ∧ (formOf i = .incPair p → (t.regs.pair p).toNat = ((s.regs.pair p).toNat + 1) % 65536)
      ∧ (formOf i = .decPair p → (t.regs.pair p).toNat = ((s.regs.pair p).toNat + 65535) % 65536)
      ∧ (∀ q, q ≠ p → t.regs.pair q = s.regs.pair q) ∧ t.regs.a = s.regs.a ∧ t.regs.flags = s.regs.flags
      ∧ t.regs.pc = s.regs.pc + 1 ∧ RanOnRegisters i s t ∧ t.draws = s.draws

/-! ### Rotates, shifts and bit operations -/

/-- RLCA, RRCA, RLA and RRA: A rotated by one, through the carry flag or not, C the bit rotated out, Z cleared or by the zero
rule as `ACC_ROTATE_Z` says, H and N (0, 0) as the flag model says; no other register but PC (rules R300 to R303). -/
def Obligations.AccRotateCompletes : Prop :=
  ∀ (i : Instr) (op : AccRot) (s : State), formOf i = .rotA op →
    ∃ t, exec i s = .next t
      ∧ t.regs.a = (rotated op.asCb s.regs.a s.regs.flags.c).1
      ∧ FlagsWritten s.params s.regs.flags t.regs.flags
          (decide (s.params.accRotateZ = .zeroRule) && decide (t.regs.a = 0))
          (rotated op.asCb s.regs.a s.regs.flags.c).2 false false
      ∧ t.regs = { s.regs with a := t.regs.a, flags := t.regs.flags, pc := s.regs.pc + 1 }
      ∧ RanOnRegisters i s t

/-- The CB rotates, shifts and SWAP, RES and SET on a register: the register gets the result; a rotate or shift writes Z by
the zero rule, C the bit shifted out (0 for SWAP), H and N (0, 0) as the flag model says; RES and SET write no flag; no
other register but PC, which moves on by 2 (rules R304 to R312, R314, R315). -/
def Obligations.CbRegisterCompletes : Prop :=
  ∀ (i : Instr) (r : Sel) (v : Byte) (s : State), s.regs.getSel r = some v →
    (∀ op, formOf i = .cb (.rot op r) →
      ∃ t, exec i s = .next t
        ∧ (let x := rotated op v s.regs.flags.c
           t.regs = { s.regs.setSel r x.1 with flags := t.regs.flags, pc := s.regs.pc + 2 }
             ∧ FlagsWritten s.params s.regs.flags t.regs.flags (decide (x.1 = 0)) x.2 false false)
        ∧ RanOnRegisters i s t)
      ∧ (∀ b, formOf i = .cb (.res b r) →
          ∃ t w, exec i s = .next t ∧ t.regs = { s.regs.setSel r w with pc := s.regs.pc + 2 }
            ∧ (∀ k, w.getLsbD k = (v.getLsbD k && decide (k ≠ b.val))) ∧ RanOnRegisters i s t)
      ∧ (∀ b, formOf i = .cb (.set b r) →
          ∃ t w, exec i s = .next t ∧ t.regs = { s.regs.setSel r w with pc := s.regs.pc + 2 }
            ∧ (∀ k, w.getLsbD k = (v.getLsbD k || decide (k = b.val))) ∧ RanOnRegisters i s t)

/-- BIT b of a register or of a readable byte at HL: Z is the complement of the bit, C unaffected, H and N (1, 0) as the
flag model says; nothing is written back, no register but F and PC changes (rules R304, R313). -/
def Obligations.BitTestCompletes : Prop :=
  ∀ (i : Instr) (b : Fin 8) (r : Sel) (v : Byte) (s : State), formOf i = .cb (.bit b r) → get8 s r = .ok v →
    ∃ t, exec i s = .next t
      ∧ FlagsWritten s.params s.regs.flags t.regs.flags (!v.getLsbD b.val) s.regs.flags.c true false
      ∧ t.regs = { s.regs with flags := t.regs.flags, pc := s.regs.pc + 2 } ∧ RanOnRegisters i s t

/-! ### Jumps, calls and returns -/

/-- A jump that is taken (JP nn, JP cc,nn, JP HL, JR e, JR cc,e) sets PC to its target, for JR the signed displacement from
the byte after the instruction, mod 2^16, and changes no other register, no flag and no memory; it costs its taken cost
(rules R341 to R345). -/
def Obligations.JumpCompletes : Prop :=
  ∀ (i : Instr) (w : Word) (s : State), JumpsTo s (formOf i) w →
    ∃ t, exec i s = .next t ∧ t.regs = { s.regs with pc := w } ∧ RanOnRegisters i s t ∧ t.draws = s.draws

/-- A conditional jump, call or return whose condition fails (NZ with Z = 1, Z with Z = 0, NC with C = 1, C with C = 0, read
from F's bits 7 and 4) moves PC past its bytes at the not-taken cost and changes nothing else: no memory access, no SP, no
flag (rules R111, R340, R342, R345, R347, R349, R522). -/
def Obligations.FailedConditionFallsThrough : Prop :=
  ∀ (i : Instr) (cc : Cond) (s : State), condition (formOf i) = some cc →
    (cc = .nz ∧ s.regs.f.getLsbD 7 = true) ∨ (cc = .z ∧ s.regs.f.getLsbD 7 = false)
      ∨ (cc = .nc ∧ s.regs.f.getLsbD 4 = true) ∨ (cc = .c ∧ s.regs.f.getLsbD 4 = false) →
    ∃ t, exec i s = .next t ∧ t.regs = { s.regs with pc := s.regs.pc + BitVec.ofNat 16 i.opKey.length }
      ∧ SameOutside s t ∧ t.cycles = s.cycles + cyclesOf s.params i.opKey false ∧ t.draws = s.draws

/-- CALL nn, CALL cc,nn when taken, and RST: the address after the instruction is pushed, low byte at SP - 2 and high byte at
SP - 1, SP goes down by 2, PC is the target; no other register, no flag (rules R105, R346, R347, R351). -/
def Obligations.CallCompletes : Prop :=
  ∀ (i : Instr) (target ret : Word) (s : State), callTarget s (formOf i) = some (target, ret) →
    ∃ t, exec i s = .next t ∧ SameBus (pushed s ret) t
      ∧ t.regs = { s.regs with sp := s.regs.sp - 2, pc := target }
      ∧ t.cycles = s.cycles + cyclesOf s.params i.opKey true ∧ t.draws = s.draws

/-- RET, RET cc when taken, and RETI, with both stack bytes readable: PC is the word at SP, SP goes up by 2, RETI sets IME
and the other two leave it; no other register, no flag, no memory (rules R105, R348 to R350). -/
def Obligations.ReturnCompletes : Prop :=
  ∀ (i : Instr) (s : State) (lo hi : Byte), dataRead16 s (formOf i) = some s.regs.sp → (∀ p, formOf i ≠ .pop p) →
    read8 s s.regs.sp = .ok lo → read8 s (s.regs.sp + 1) = .ok hi →
    ∃ t, exec i s = .next t
      ∧ t.regs = { s.regs with sp := s.regs.sp + 2, pc := joinBytes hi lo }
      ∧ t.irq = { s.irq with ime := decide (formOf i = .reti) || s.irq.ime }
      ∧ t.mem = s.mem ∧ t.lcd = s.lcd ∧ t.events = s.events ∧ t.halted = s.halted ∧ t.fatal = s.fatal
      ∧ t.params = s.params ∧ t.cycles = s.cycles + cyclesOf s.params i.opKey true ∧ t.draws = s.draws

/-! ### System instructions, and errors as a step's outcome -/

/-- NOP changes only PC and the cycles; DI and EI also set IME to false and true and leave the snapshot `ime_prev`; no flag,
no memory (rules R360, R362, R363). -/
def Obligations.NopDiEiComplete : Prop :=
  ∀ s : State,
    exec .nop s = .next { s with
        regs := { s.regs with pc := s.regs.pc + 1 }, cycles := s.cycles + cyclesOf s.params (.base 0x00) true }
      ∧ exec .di s = .next { s with
          regs := { s.regs with pc := s.regs.pc + 1 }, irq := { s.irq with ime := false }
          cycles := s.cycles + cyclesOf s.params (.base 0xF3) true }
      ∧ exec .ei s = .next { s with
          regs := { s.regs with pc := s.regs.pc + 1 }, irq := { s.irq with ime := true }
          cycles := s.cycles + cyclesOf s.params (.base 0xFB) true }

/-- HALT sets `halted` and moves PC past it; with IME false while a request is already waiting it is a fatal
UnimplementedFeatureError(HALT_BUG). STOP and the illegal bytes are their errors: UnimplementedFeatureError(STOP), and
DecodeError with PC and the byte. A fatal error leaves every other part of the state, PC and the cycles too (rules R361,
R364, R365; the fatal mark is in the next state, log 1). -/
def Obligations.HaltStopAndIllegalComplete : Prop :=
  ∀ (s : State) (op : Byte),
    (s.irq.ime = true ∨ (∀ k, ¬Waiting s k) →
        exec .halt s = .next { s with
          regs := { s.regs with pc := s.regs.pc + 1 }, halted := true
          cycles := s.cycles + cyclesOf s.params (.base 0x76) true })
      ∧ (∀ k, s.irq.ime = false → Waiting s k →
          exec .halt s = .next { s with fatal := some (.unimplemented .haltBug) })
      ∧ exec .stop s = .next { s with fatal := some (.unimplemented .stop) }
      ∧ exec (.illegal op) s = .next { s with fatal := some (.decode s.regs.pc op none) }

/-- A data read that faults ends the instruction with that error and none of its effects: no register, no memory, no PC, no
cycles; of the two stack bytes of a pop or return the first that faults gives the error (rules R74, R105, R202, R235, R269,
R304, R348, R402). -/
def Obligations.FaultingReadEndsInstr : Prop :=
  ∀ (i : Instr) (s : State) (a : Word) (e : FatalError),
    (dataRead s (formOf i) = some a → read8 s a = .error e → exec i s = .next (s.raise e))
      ∧ (dataRead16 s (formOf i) = some a → read8 s a = .error e → exec i s = .next (s.raise e))
      ∧ (∀ lo, dataRead16 s (formOf i) = some a → read8 s a = .ok lo → read8 s (a + 1) = .error e →
          exec i s = .next (s.raise e))

/-- Every instruction completes or is a fatal error, and a fatal error leaves the state as the instruction found it but for
the mark `fatal` (rules R402, R405; that the mark stands in a next state is log 1). -/
def Obligations.FatalErrorChangesNothing : Prop :=
  ∀ (i : Instr) (s : State), ∃ t, exec i s = .next t ∧ (t.fatal = s.fatal ∨ ∃ e, t = s.raise e)

/-- SP is written by LD SP, ADD SP, INC SP, DEC SP and the pushes and pops only, IME by EI, DI and RETI only, `halted` by HALT
only, and `ime_prev` by no instruction (rules R22, R34, R35). -/
def Obligations.OnlyTheirInstrsWriteSpImeHalted : Prop :=
  ∀ (i : Instr) (s t : State), exec i s = .next t →
    (t.regs.sp ≠ s.regs.sp → writesSp (formOf i) = true)
      ∧ (t.irq.ime ≠ s.irq.ime → i = .ei ∨ i = .di ∨ i = .reti)
      ∧ (t.halted ≠ s.halted → i = .halt) ∧ t.irq.imePrev = s.irq.imePrev

/-! ### The step and interrupts -/

/-- A step runs the decoded instruction: with `fatal` absent and the CPU not idling in HALT, when the bytes at PC, after
the step's interrupt part, are those of a well-formed instruction whose opcode is supported, the step is `exec` of that
instruction at that state. The byte 0xCB itself is looked up in no set, its sub-opcode in `SUPPORTED_CB`, and an illegal
byte put into `SUPPORTED_BASE` still runs to its DecodeError (log 7); of STOP only the first byte is read (log 12) (rules
R8, R104, R109, R110, R366). -/
def Obligations.StepRunsDecodedInstr : Prop :=
  ∀ (s : State) (i : Instr), s.fatal = none → idles (interruptPhase s) = false → i.WellFormed →
    supported s.params i = true →
    (∀ n b, (encode i)[n]? = some b → (i = .stop → n = 0) →
      read8 (readyState s) ((readyState s).regs.pc + BitVec.ofNat 16 n) = .ok b) →
    step s = exec i (readyState s)

/-- The errors before an instruction runs, in their order: the opcode fetch, the sub-opcode fetch, the decode check (rule
R366: DecodeError with PC, the opcode and after 0xCB the sub-opcode; 0xCB itself is looked up in no set, log 7), the
operand fetch; each leaves the state as the step's interrupt part left it, with PC at the instruction (rules R8, R109,
R110, R366, R402, R403; the fatal mark is in the next state, log 1). -/
def Obligations.FetchAndDecodeErrors : Prop :=
  ∀ (s : State) (op sub b1 : Byte) (e : FatalError), s.fatal = none → idles (interruptPhase s) = false →
    let r := readyState s
    (read8 r r.regs.pc = .error e → step s = .next (r.raise e))
      ∧ (read8 r r.regs.pc = .ok op → op ≠ 0xCB → s.params.supportedBase.mem op = false →
          step s = .next (r.raise (.decode r.regs.pc op none)))
      ∧ (read8 r r.regs.pc = .ok 0xCB → read8 r (r.regs.pc + 1) = .error e → step s = .next (r.raise e))
      ∧ (read8 r r.regs.pc = .ok 0xCB → read8 r (r.regs.pc + 1) = .ok sub → s.params.supportedCb.mem sub = false →
          step s = .next (r.raise (.decode r.regs.pc 0xCB (some sub))))
      ∧ (read8 r r.regs.pc = .ok op → op ≠ 0xCB → op ≠ 0x10 → s.params.supportedBase.mem op = true →
          2 ≤ opcodeLength op → read8 r (r.regs.pc + 1) = .error e → step s = .next (r.raise e))
      ∧ (read8 r r.regs.pc = .ok op → op ≠ 0xCB → s.params.supportedBase.mem op = true → opcodeLength op = 3 →
          read8 r (r.regs.pc + 1) = .ok b1 → read8 r (r.regs.pc + 2) = .error e → step s = .next (r.raise e))

/-- There is a step exactly while `fatal` is absent, whatever the state; and no call of the host clears the mark (rules R36,
R401, R470). -/
def Obligations.StepExistsExactlyWithoutFatal : Prop :=
  ∀ s : State,
    (∀ e, s.fatal = some e → step s = .fault (.stopped e)) ∧ (s.fatal = none → ∃ t, step s = .next t)
      ∧ ∀ c e t, s.fatal = some e → hostCall c s = .next t → t.fatal = some e

/-- Delivery: with `ime_prev` set, the lowest-numbered waiting source k is dispatched: its counter goes down by one (with
`CONSUME_ALL` every waiting source's does), PC is pushed, IME and then `ime_prev` are cleared, PC is the vector 0x40 + 8 k,
the CPU leaves HALT, `DISPATCH_CYCLES` are added, no other register and no flag changes. Without `ime_prev` or a waiting
source nothing happens but that `ime_prev` takes IME (rules R31, R110, R412 to R414). -/
def Obligations.InterruptPhaseDispatchesLowest : Prop :=
  ∀ s : State,
    (∀ k, s.irq.imePrev = true → Waiting s k → (∀ j, j.index < k.index → ¬Waiting s j) →
      k.vector.toNat = 0x40 + 8 * k.index
        ∧ ∃ p : Pending,
          (∀ j, p.count j =
            if j = k ∨ (s.params.delivery = .consumeAll ∧ Waiting s j) then s.irq.pending.count j - 1
            else s.irq.pending.count j)
          ∧ (let u := pushed { s with irq := { s.irq with pending := p }, events := [] } s.regs.pc
             interruptPhase s = { u with
               regs := { s.regs with sp := s.regs.sp - 2, pc := k.vector }
               irq := { u.irq with ime := false, imePrev := false }, halted := false
               cycles := s.cycles + s.params.dispatchCycles }))
      ∧ (s.irq.imePrev = false ∨ (∀ k, ¬Waiting s k) →
          interruptPhase s = { s with events := [], irq := { s.irq with imePrev := s.irq.ime } })

/-- A halted CPU with no request waiting only adds the idle cost; with one waiting and `ime_prev` clear it leaves HALT and
runs the instruction at PC in the same step, no dispatch made and the request still pending (rules R361, R415). -/
def Obligations.HaltedStepIdlesOrWakes : Prop :=
  ∀ s : State, s.fatal = none → s.halted = true →
    ((∀ k, ¬Waiting s k) →
        step s = .next { s with
          events := [], irq := { s.irq with imePrev := s.irq.ime }, cycles := s.cycles + s.params.haltIdle })
      ∧ (∀ k, Waiting s k → s.irq.imePrev = false →
          step s = runInstr { s with
            events := [], irq := { s.irq with imePrev := s.irq.ime }, halted := false })

/-- The one-step delay: after EI at step N, with IME and `ime_prev` clear before, step N + 1 delivers nothing, and step
N + 2 takes the lowest-numbered request that is waiting then (rules R363, R417, R511). -/
def Obligations.EiDelaysDeliveryByOneStep : Prop :=
  ∀ s t : State, s.fatal = none → s.halted = false → s.irq.ime = false → s.irq.imePrev = false →
    fetchInstr (readyState s) = .ok .ei → step s = .next t →
    t.irq.ime = true ∧ t.irq.imePrev = false
      ∧ interruptPhase t = { t with events := [], irq := { t.irq with imePrev := true } }
      ∧ ∀ u k, step t = .next u → Waiting u k → (∀ j, j.index < k.index → ¬Waiting u j) →
          (interruptPhase u).regs.pc = k.vector ∧ (interruptPhase u).irq.ime = false

/-! ### The bus, the devices and the display -/

/-- IF at 0xFF0F: a write adds one to the counter of every source whose bit is set and changes nothing else; a read gives
bit k = "a request of source k is pending" and `IF_UNUSED` in bits 7..5. IE at 0xFFFF: a write stores all 8 bits and
changes nothing else; a read gives them back (rules R410, R411). -/
def Obligations.InterruptRegisters : Prop :=
  ∀ (s : State) (v : Byte),
    (s.mem.cartSize < 0xFF0F →
      write8 s 0xFF0F v = { s with irq := { s.irq with pending := (write8 s 0xFF0F v).irq.pending } }
        ∧ (∀ k, (write8 s 0xFF0F v).irq.pending.count k = s.irq.pending.count k + (v.getLsbD k.index).toNat)
        ∧ ∃ b, read8 s 0xFF0F = .ok b ∧ b.extractLsb' 5 3 = s.params.ifUnused
            ∧ ∀ k, b.getLsbD k.index = decide (0 < s.irq.pending.count k))
      ∧ (s.mem.cartSize < 0xFFFF →
          write8 s 0xFFFF v = { s with irq := { s.irq with ie := v } } ∧ read8 s 0xFFFF = .ok s.irq.ie)

/-- The boot ROM and its latch: while it is enabled, 0x0000..0x00FF read BOOT; a write of exactly 1 to 0xFF50 turns it off
and any other value changes nothing; then the same addresses read the cartridge, or fault at and beyond its end; a read of
0xFF50 is an UnmappedReadError (rules R61, R63, R64, R70, R516). -/
def Obligations.BootRomAndLatch : Prop :=
  ∀ (s : State) (v : Byte) (a : Word),
    (s.mem.cartSize < 0xFF50 →
      read8 s 0xFF50 = .error (.unmappedRead 0xFF50)
        ∧ write8 s 0xFF50 v = (if v = 1 then { s with mem := { s.mem with bootEnabled := false } } else s))
      ∧ (a.toNat < 0x100 →
          (s.mem.bootEnabled = true → read8 s a = .ok (readByte s.mem.boot a.toNat))
            ∧ (s.mem.bootEnabled = false → a.toNat < s.mem.cartSize → read8 s a = .ok (readByte s.mem.cart a.toNat))
            ∧ (s.mem.bootEnabled = false → s.mem.cartSize ≤ a.toNat → read8 s a = .error (.unmappedRead a)))

/-- The LCD registers: LCDC, SCY, SCX, LY and BGP read their stored byte; LCDC's write stores and does not render; a write
of SCY or SCX stores and then renders; BGP's stores, rebuilds its table, entry i from bits 2i+1..2i, and then renders;
LY's write is logged; OBP0 and OBP1 store and rebuild entries 1 to 3 in the extended variant; every other sub-address, and
8 and 9 in the base variant, is fatal to read and logged when written; no write does anything else (rules R440 to
R447). -/
def Obligations.LcdRegisters : Prop :=
  ∀ (s : State) (v : Byte), s.mem.cartSize < 0xFF40 →
    read8 s 0xFF40 = .ok s.lcd.lcdc ∧ read8 s 0xFF42 = .ok s.lcd.scy ∧ read8 s 0xFF43 = .ok s.lcd.scx
      ∧ read8 s 0xFF44 = .ok s.lcd.ly ∧ read8 s 0xFF47 = .ok s.lcd.bgp
      ∧ write8 s 0xFF40 v = { s with lcd := { s.lcd with lcdc := v } }
      ∧ write8 s 0xFF42 v = render { s with lcd := { s.lcd with scy := v } }
      ∧ write8 s 0xFF43 v = render { s with lcd := { s.lcd with scx := v } }
      ∧ write8 s 0xFF44 v = s.log (.unimplemented .lyWrite)
      ∧ (∃ t : BgTable, t.entry0.index = v.toNat % 4 ∧ t.entry1.index = v.toNat / 4 % 4
          ∧ t.entry2.index = v.toNat / 16 % 4 ∧ t.entry3.index = v.toNat / 64 % 4
          ∧ write8 s 0xFF47 v = render { s with lcd := { s.lcd with bgp := v, bgTable := t } })
      ∧ (s.params.extendedVariant = true →
          read8 s 0xFF48 = .ok s.lcd.obp0 ∧ read8 s 0xFF49 = .ok s.lcd.obp1
            ∧ ∃ t : ObjTable, t.entry1.index = v.toNat / 4 % 4 ∧ t.entry2.index = v.toNat / 16 % 4
                ∧ t.entry3.index = v.toNat / 64 % 4
                ∧ write8 s 0xFF48 v = { s with lcd := { s.lcd with obp0 := v, obp0Table := t } }
                ∧ write8 s 0xFF49 v = { s with lcd := { s.lcd with obp1 := v, obp1Table := t } })
      ∧ ∀ k, (k ∈ [1, 5, 6, 10, 11, 12, 13, 14, 15] ∨ (k ∈ [8, 9] ∧ s.params.extendedVariant = false)) →
          read8 s (0xFF40 + BitVec.ofNat 16 k) = .error (.unimplemented (.lcdRead k))
            ∧ write8 s (0xFF40 + BitVec.ofNat 16 k) v = s.log (.unimplemented (.lcdWrite k))

/-- What a render leaves at every pixel, whatever `RENDER_MARGIN` is: of the tiles it draws over the pixel, in loop order, the
last one whose colour index there is not 0 gives the shade, by the background table; where every index is 0 the pixel is
white. With margin 0 one tile alone covers a pixel; with the default margin 1 tile row 18 falls on tile row 0 of the
screen and tile column 20 on tile column 0, and each wins there where its own index is not 0 (rules R451 to R455; the
remainders are log 15). -/
def Obligations.RenderDrawsTilePixels : Prop :=
  ∀ (s : State) (i j px py : Nat), s.lcd.lcdc.getLsbD 4 = true → i < 18 → j < 20 → px < 8 → py < 8 →
    (render s).lcd.pixel ((8 * i + py + 144 - s.lcd.scy.toNat % 8) % 144) ((8 * j + px + 160 - s.lcd.scx.toNat % 8) % 160)
      = (((drawnOver s.params.renderMargin i j).map fun t => tileIndex s t.1 t.2 px py).filter (· ≠ 0)).getLast?.elim
          Shade.white s.lcd.bgTable.get

/-- Properties of the render: with LCDC bit 4 clear it only logs; otherwise it changes only `fb`, to a picture that depends
neither on the picture before nor on the table's entry 0, so that a second render changes nothing; and no write but one of
SCY, SCX or BGP changes `fb` (rules R450, R452, R454, R512). -/
def Obligations.RenderProperties : Prop :=
  (∀ s : State, s.lcd.lcdc.getLsbD 4 = false → render s = s.log (.unimplemented .signedTileData))
    ∧ (∀ (s : State) (x : Shade) (fb : List (Nat × Shade)), s.lcd.lcdc.getLsbD 4 = true →
        render s = { s with lcd := { s.lcd with fb := (render s).lcd.fb } } ∧ render (render s) = render s
          ∧ (render { s with
              lcd := { s.lcd with bgTable := { s.lcd.bgTable with entry0 := x }, fb := fb } }).lcd.fb
            = (render s).lcd.fb)
    ∧ ∀ (s : State) (a : Word) (v : Byte), (write8 s a v).lcd.fb ≠ s.lcd.fb →
        a = 0xFF42 ∨ a = 0xFF43 ∨ a = 0xFF47

/-- RAM: where the cartridge does not reach, 0x8000..0x9FFF is byte a - 0x8000 of VRAM, 0xC000..0xDFFF byte a - 0xC000 of
WRAM, 0xE000..0xFDFF byte a - 0xE000 of WRAM and 0xFF80..0xFFFE byte a - 0xFF80 of HRAM, for reads and for writes, and a
write changes nothing else; a byte written is what its address and every other address of the same byte read afterwards,
and no other address reads differently; 0xE000 + k and 0xC000 + k name one byte for k up to 0x1DFF (rules R66 to R68,
R81). -/
def Obligations.RamHoldsLastWrite : Prop :=
  (∀ (s : State) (a : Word) (v : Byte), s.mem.cartSize < a.toNat →
    (0x8000 ≤ a.toNat → a.toNat ≤ 0x9FFF → read8 s a = .ok (readByte s.mem.vram (a.toNat - 0x8000))
      ∧ write8 s a v = { s with mem := { s.mem with vram := writeByte s.mem.vram (a.toNat - 0x8000) v } })
    ∧ (0xC000 ≤ a.toNat → a.toNat ≤ 0xDFFF → read8 s a = .ok (readByte s.mem.wram (a.toNat - 0xC000))
      ∧ write8 s a v = { s with mem := { s.mem with wram := writeByte s.mem.wram (a.toNat - 0xC000) v } })
    ∧ (0xE000 ≤ a.toNat → a.toNat ≤ 0xFDFF → read8 s a = .ok (readByte s.mem.wram (a.toNat - 0xE000))
      ∧ write8 s a v = { s with mem := { s.mem with wram := writeByte s.mem.wram (a.toNat - 0xE000) v } })
    ∧ (0xFF80 ≤ a.toNat → a.toNat ≤ 0xFFFE → read8 s a = .ok (readByte s.mem.hram (a.toNat - 0xFF80))
      ∧ write8 s a v = { s with mem := { s.mem with hram := writeByte s.mem.hram (a.toNat - 0xFF80) v } }))
    ∧ (∀ (s : State) (a b : Word) (v : Byte), s.Inv → isRam s.mem a = true →
      read8 (write8 s a v) b = if place s.mem b = place s.mem a then .ok v else read8 s b)
    ∧ ∀ (s : State) (k : Nat) (v : Byte), s.mem.cartSize < 0xC000 → k ≤ 0x1DFF →
        read8 s (BitVec.ofNat 16 (0xE000 + k)) = read8 s (BitVec.ofNat 16 (0xC000 + k))
          ∧ write8 s (BitVec.ofNat 16 (0xE000 + k)) v = write8 s (BitVec.ofNat 16 (0xC000 + k)) v

/-- ROM, the joypad address and holes: below the cartridge's size and not under the boot ROM a read gives the cartridge's
byte, also where that shadows RAM or a device; a write to the boot ROM, to the cartridge or to an address where nothing
answers changes nothing but the event list, which gains UnmappedWriteError(a, v); a read of such a hole, or at the
cartridge's end, is fatal; a read of 0xFF00 gives `JOYPAD_VALUE`, and a write of it only logs JOYPAD_WRITE (rules R60 to
R65, R71, R72). -/
def Obligations.RomAndHoleAccesses : Prop :=
  (∀ (s : State) (a : Word) (v : Byte),
    (a.toNat < s.mem.cartSize → ¬(a.toNat < 0x100 ∧ s.mem.bootEnabled = true) →
        read8 s a = .ok (readByte s.mem.cart a.toNat))
      ∧ ((a.toNat < 0x100 ∧ s.mem.bootEnabled = true) ∨ a.toNat ≤ s.mem.cartSize →
          write8 s a v = s.log (.unmappedWrite a v))
      ∧ (Hole s.mem a → read8 s a = .error (.unmappedRead a) ∧ write8 s a v = s.log (.unmappedWrite a v))
      ∧ (a.toNat = s.mem.cartSize → ¬(a.toNat < 0x100 ∧ s.mem.bootEnabled = true) →
          read8 s a = .error (.unmappedRead a)))
    ∧ ∀ (s : State) (v : Byte), s.mem.cartSize < 0xFF00 →
        read8 s 0xFF00 = .ok s.params.joypadValue ∧ write8 s 0xFF00 v = s.log (.unimplemented .joypadWrite)

/-! ### The host and the invariants -/

/-- The display calls: `start_frame()` sets LY to 0 and changes nothing else; n display steps raise LY by n up to `LY_MAX`,
hold it there, and change nothing else; a value above `LY_MAX` is held (rules R460, R461). -/
def Obligations.DisplayCallsMoveOnlyLy : Prop :=
  ∀ (s : State) (n : Nat),
    startFrame s = { s with lcd := { s.lcd with ly := 0 } }
      ∧ displayStep^[n] s = { s with
          lcd := { s.lcd with
            ly := if s.lcd.ly.toNat ≤ s.params.lyMax.toNat then
                BitVec.ofNat 8 (min (s.lcd.ly.toNat + n) s.params.lyMax.toNat)
              else s.lcd.ly } }

/-- Construction: any boot image but one of 256 bytes is a LoadError; otherwise the registers, flags, counters, masks and
display registers are 0, IME, `ime_prev` and `halted` false, `fatal` absent, the boot ROM enabled, the tables and the
framebuffer white, no event logged, and the stores hold the images (rule R500). -/
def Obligations.ConstructionState : Prop :=
  ∀ (boot cart : List Byte) (ram : InitRam) (p : Params),
    (boot.length ≠ 256 → construct boot cart ram p = .error (.bootLength boot.length))
      ∧ (boot.length = 256 → ∃ s, construct boot cart ram p = .ok s
          ∧ s.regs.af = 0 ∧ s.regs.bc = 0 ∧ s.regs.de = 0 ∧ s.regs.hl = 0 ∧ s.regs.sp = 0 ∧ s.regs.pc = 0
          ∧ (∀ k, s.irq.pending.count k = 0) ∧ s.irq.ie = 0 ∧ s.irq.ime = false ∧ s.irq.imePrev = false
          ∧ s.halted = false ∧ s.fatal = none ∧ s.cycles = 0 ∧ s.params = p ∧ s.events = []
          ∧ s.mem.bootEnabled = true ∧ s.mem.cartSize = cart.length
          ∧ (∀ n b, boot[n]? = some b → readByte s.mem.boot n = b)
          ∧ (∀ n b, cart[n]? = some b → readByte s.mem.cart n = b)
          ∧ (∀ n b, n < 8192 → ram.vram[n]? = some b → readByte s.mem.vram n = b)
          ∧ (∀ n b, n < 8192 → ram.wram[n]? = some b → readByte s.mem.wram n = b)
          ∧ (∀ n b, n < 127 → ram.hram[n]? = some b → readByte s.mem.hram n = b)
          ∧ s.lcd.lcdc = 0 ∧ s.lcd.scy = 0 ∧ s.lcd.scx = 0 ∧ s.lcd.ly = 0 ∧ s.lcd.bgp = 0 ∧ s.lcd.obp0 = 0
          ∧ s.lcd.obp1 = 0 ∧ (∀ i, s.lcd.bgTable.get i = .white)
          ∧ s.lcd.obp0Table = { entry1 := .white, entry2 := .white, entry3 := .white }
          ∧ s.lcd.obp1Table = { entry1 := .white, entry2 := .white, entry3 := .white }
          ∧ ∀ y x, s.lcd.pixel y x = .white)

/-- The state invariant is kept by every step from every state that has it: the five stores and the framebuffer stay in
canonical form at their sizes, and every palette table stays what its register decodes to (rules R37, R39, R444, R445). -/
def Obligations.StepKeepsInv : Prop :=
  ∀ s t : State, s.Inv → step s = .next t → t.Inv

/-- The state invariant holds after reset, and after every construction, whose RAM images the model cuts to their stores
(rule R500, log 4). -/
def Obligations.ResetHasInv : Prop :=
  State.reset.Inv ∧ ∀ (boot cart : List Byte) (ram : InitRam) (p : Params) (s : State),
    construct boot cart ram p = .ok s → s.Inv

/-- What no call of the host ever changes: the parameters, the boot and cartridge images and the cartridge's size; the boot
ROM, once off, stays off; `fatal`, once set, stays; the cycle counter never goes down and only a CPU step moves it; a CPU
step never changes LY (rules R36, R38, R41, R43, R443). -/
def Obligations.HostCallsKeepImages : Prop :=
  ∀ (c : HostCall) (s t : State), hostCall c s = .next t →
    t.params = s.params ∧ t.mem.boot = s.mem.boot ∧ t.mem.cart = s.mem.cart ∧ t.mem.cartSize = s.mem.cartSize
      ∧ (s.mem.bootEnabled = false → t.mem.bootEnabled = false) ∧ (s.fatal ≠ none → t.fatal = s.fatal)
      ∧ s.cycles ≤ t.cycles ∧ (c ≠ .cpuStep → t.cycles = s.cycles) ∧ (c = .cpuStep → t.lcd.ly = s.lcd.ly)
end

