-- ==== Sys2Proof/Laws/Bits.lean ====
section
/-! SUPPORT. Splitting a word into its bytes and joining them again (rule R21), and F as a byte (rule R24). -/

namespace Sys2Proof.Machine

@[simp] theorem joinBytes_hi_lo (w : Word) : joinBytes (hiByte w) (loByte w) = w := by
  unfold joinBytes hiByte loByte
  ext i hi
  simp only [BitVec.getElem_append, BitVec.getElem_extractLsb']
  split
  · simp [BitVec.getLsbD_eq_getElem hi]
  · have h : 8 + (i - 8) = i := by omega
    simp [h, BitVec.getLsbD_eq_getElem hi]

@[simp] theorem hiByte_joinBytes (a b : Byte) : hiByte (joinBytes a b) = a := by
  unfold joinBytes hiByte
  ext i hi
  rw [BitVec.getElem_extractLsb']
  exact (BitVec.getLsbD_append (x := a) (y := b) (i := 8 + i)).trans (by simp [BitVec.getLsbD_eq_getElem hi])

@[simp] theorem loByte_joinBytes (a b : Byte) : loByte (joinBytes a b) = b := by
  unfold joinBytes loByte
  ext i hi
  rw [BitVec.getElem_extractLsb']
  exact (BitVec.getLsbD_append (x := a) (y := b) (i := 0 + i)).trans (by simp [hi])

/-- "`{h, l} = h * 256 + l`" (rule R11). -/
theorem joinBytes_toNat (a b : Byte) : (joinBytes a b).toNat = 256 * a.toNat + b.toNat := by
  unfold joinBytes
  refine (BitVec.toNat_append a b).trans ?_
  rw [← Nat.shiftLeft_add_eq_or_of_lt (by omega), Nat.shiftLeft_eq]
  omega

@[simp] theorem Flags.ofByte_toByte (g : Flags) : Flags.ofByte g.toByte = g := by
  obtain ⟨z, n, h, c⟩ := g
  cases z <;> cases n <;> cases h <;> cases c <;> rfl

/-- "Bits 3..0 read as 0 at all times" (rule R24). -/
theorem Flags.toByte_ofByte (v : Byte) : (Flags.ofByte v).toByte = v &&& 0xF0 := by
  revert v; decide

end Sys2Proof.Machine
end

