-- ==== Sys2Proof/Laws/Memory.lean ====
section
/-! SUPPORT. The laws of a backing store: a read after a write, and the canonical form that every write keeps. -/

namespace Sys2Proof.Machine

variable {α : Type} [DecidableEq α] {d : α} {size : Nat}

/-- Raising the lower bound only loses strength. -/
theorem Memory.wfFrom_mono {lo lo' : Nat} {l : List (Nat × α)} (h : Memory.wfFrom d size lo l = true) (hlo : lo' ≤ lo) :
    Memory.wfFrom d size lo' l = true := by
  cases l with
  | nil => rfl
  | cons e rest =>
    simp only [Memory.wfFrom, Bool.and_eq_true, decide_eq_true_eq] at h ⊢
    exact ⟨⟨⟨by omega, h.1.1.2⟩, h.1.2⟩, h.2⟩

/-- Below the first index nothing is listed. -/
theorem Memory.read_below {lo n : Nat} {l : List (Nat × α)} (h : Memory.wfFrom d size lo l = true) (hn : n < lo) :
    Memory.read d l n = d := by
  induction l generalizing lo with
  | nil => rfl
  | cons e rest ih =>
    simp only [Memory.wfFrom, Bool.and_eq_true, decide_eq_true_eq] at h
    rw [Memory.read, if_neg (by omega)]
    exact ih h.2 (by omega)

/-- A write at another index leaves the value read. -/
theorem Memory.read_write_other {l : List (Nat × α)} {n m : Nat} (v : α) (h : m ≠ n) :
    Memory.read d (Memory.write d l n v) m = Memory.read d l m := by
  have h' : n ≠ m := fun e => h e.symm
  induction l with
  | nil => unfold Memory.write; split <;> simp [Memory.read, h']
  | cons e rest ih =>
    obtain ⟨k, w⟩ := e
    unfold Memory.write
    split
    · split <;> simp [Memory.read, h']
    · split
      · next hk => subst hk; split <;> simp [Memory.read, h']
      · simp only [Memory.read, ih]

/-- The value read at the index just written. -/
theorem Memory.read_write_same {l : List (Nat × α)} {lo n : Nat} (v : α) (h : Memory.wfFrom d size lo l = true) :
    Memory.read d (Memory.write d l n v) n = v := by
  induction l generalizing lo with
  | nil =>
    unfold Memory.write
    split
    · next hv => subst hv; rfl
    · simp [Memory.read]
  | cons e rest ih =>
    obtain ⟨k, w⟩ := e
    have h0 := h
    simp only [Memory.wfFrom, Bool.and_eq_true, decide_eq_true_eq] at h
    unfold Memory.write
    split
    · next hk =>
      split
      · next hv =>
        subst hv
        exact Memory.read_below (lo := k) (size := size)
          (by simp only [Memory.wfFrom, Bool.and_eq_true, decide_eq_true_eq]; exact ⟨⟨⟨Nat.le_refl k, h.1.1.2⟩, h.1.2⟩, h.2⟩) hk
      · simp [Memory.read]
    · split
      · next hk =>
        split
        · next hv => subst hv; subst hk; exact Memory.read_below h.2 (by omega)
        · simp [Memory.read]
      · next hk => rw [Memory.read, if_neg (fun hh => hk hh.symm)]; exact ih h.2

/-- A write inside the store keeps the canonical form. -/
theorem Memory.wfFrom_write {l : List (Nat × α)} {lo n : Nat} (v : α) (h : Memory.wfFrom d size lo l = true)
    (hlo : lo ≤ n) (hn : n < size) : Memory.wfFrom d size lo (Memory.write d l n v) = true := by
  induction l generalizing lo with
  | nil =>
    unfold Memory.write
    split
    · rfl
    · next hv => simp [Memory.wfFrom, hlo, hn, hv]
  | cons e rest ih =>
    obtain ⟨k, w⟩ := e
    have h0 := h
    simp only [Memory.wfFrom, Bool.and_eq_true, decide_eq_true_eq] at h
    unfold Memory.write
    split
    · next hk =>
      split
      · exact h0
      · next hv =>
        simp only [Memory.wfFrom, Bool.and_eq_true, decide_eq_true_eq]
        exact ⟨⟨⟨hlo, hn⟩, hv⟩, ⟨⟨by omega, h.1.1.2⟩, h.1.2⟩, h.2⟩
    · split
      · next hk =>
        split
        · exact Memory.wfFrom_mono h.2 (by omega)
        · next hv =>
          subst hk
          simp only [Memory.wfFrom, Bool.and_eq_true, decide_eq_true_eq]
          exact ⟨⟨⟨hlo, hn⟩, hv⟩, h.2⟩
      · next hk =>
        simp only [Memory.wfFrom, Bool.and_eq_true, decide_eq_true_eq]
        exact ⟨h.1, ih h.2 (by omega)⟩

/-- A write inside the store keeps the canonical form. -/
theorem Memory.wf_write {l : List (Nat × α)} {n : Nat} (v : α) (h : Memory.wf d size l = true) (hn : n < size) :
    Memory.wf d size (Memory.write d l n v) = true :=
  Memory.wfFrom_write v h (Nat.zero_le n) hn

/-- Below an image's first index nothing is listed. -/
theorem Memory.read_ofBytesFrom_below (bs : List Byte) (lo n : Nat) (h : n < lo) :
    Memory.read Memory.unlisted (Memory.ofBytesFrom lo bs) n = Memory.unlisted := by
  induction bs generalizing lo with
  | nil => rfl
  | cons c cs ih =>
    unfold Memory.ofBytesFrom
    split
    · exact ih (lo + 1) (by omega)
    · rw [Memory.read, if_neg (by omega)]; exact ih (lo + 1) (by omega)

/-- An image read at one of its indexes. -/
theorem Memory.read_ofBytesFrom (bs : List Byte) (lo n : Nat) (b : Byte) (h : bs[n]? = some b) :
    Memory.read Memory.unlisted (Memory.ofBytesFrom lo bs) (lo + n) = b := by
  induction bs generalizing lo n with
  | nil => simp at h
  | cons c cs ih =>
    unfold Memory.ofBytesFrom
    cases n with
    | zero =>
      obtain rfl : c = b := by simpa using h
      split
      · next hc => rw [Memory.read_ofBytesFrom_below _ _ _ (by omega)]; exact hc.symm
      · simp [Memory.read]
    | succ n =>
      have h' := ih (lo + 1) n (by simpa using h)
      rw [show lo + (n + 1) = lo + 1 + n by omega]
      split
      · exact h'
      · rw [Memory.read, if_neg (by omega)]; exact h'

/-- An image in a store that has room for it is in canonical form. -/
theorem Memory.wfFrom_ofBytesFrom (bs : List Byte) (lo size : Nat) (h : lo + bs.length ≤ size) :
    Memory.wfFrom Memory.unlisted size lo (Memory.ofBytesFrom lo bs) = true := by
  induction bs generalizing lo with
  | nil => rfl
  | cons c cs ih =>
    rw [List.length_cons] at h
    unfold Memory.ofBytesFrom
    split
    · exact Memory.wfFrom_mono (ih (lo + 1) (by omega)) (by omega)
    · next hc =>
      simp only [Memory.wfFrom, Bool.and_eq_true, decide_eq_true_eq]
      exact ⟨⟨⟨Nat.le_refl lo, by omega⟩, hc⟩, ih (lo + 1) (by omega)⟩

end Sys2Proof.Machine
end

