-- ==== Sys2Proof/Laws/State.lean ====
section
/-! SUPPORT. What each named update of the state leaves in each component: one line per component per update, so that no
proof unfolds a record update. -/

namespace Sys2Proof.Machine

/-! `State.log` -/

@[simp] theorem State.log_regs (s : State) (ev : Event) : (s.log ev).regs = s.regs := rfl
@[simp] theorem State.log_irq (s : State) (ev : Event) : (s.log ev).irq = s.irq := rfl
@[simp] theorem State.log_mem (s : State) (ev : Event) : (s.log ev).mem = s.mem := rfl
@[simp] theorem State.log_lcd (s : State) (ev : Event) : (s.log ev).lcd = s.lcd := rfl
@[simp] theorem State.log_halted (s : State) (ev : Event) : (s.log ev).halted = s.halted := rfl
@[simp] theorem State.log_fatal (s : State) (ev : Event) : (s.log ev).fatal = s.fatal := rfl
@[simp] theorem State.log_cycles (s : State) (ev : Event) : (s.log ev).cycles = s.cycles := rfl
@[simp] theorem State.log_params (s : State) (ev : Event) : (s.log ev).params = s.params := rfl
@[simp] theorem State.log_events (s : State) (ev : Event) : (s.log ev).events = s.events ++ [ev] := rfl
@[simp] theorem State.log_draws (s : State) (ev : Event) : (s.log ev).draws = s.draws := rfl

/-! `State.setLcd` -/

@[simp] theorem State.setLcd_regs (s : State) (l : Lcd) : (s.setLcd l).regs = s.regs := rfl
@[simp] theorem State.setLcd_irq (s : State) (l : Lcd) : (s.setLcd l).irq = s.irq := rfl
@[simp] theorem State.setLcd_mem (s : State) (l : Lcd) : (s.setLcd l).mem = s.mem := rfl
@[simp] theorem State.setLcd_lcd (s : State) (l : Lcd) : (s.setLcd l).lcd = l := rfl
@[simp] theorem State.setLcd_halted (s : State) (l : Lcd) : (s.setLcd l).halted = s.halted := rfl
@[simp] theorem State.setLcd_fatal (s : State) (l : Lcd) : (s.setLcd l).fatal = s.fatal := rfl
@[simp] theorem State.setLcd_cycles (s : State) (l : Lcd) : (s.setLcd l).cycles = s.cycles := rfl
@[simp] theorem State.setLcd_params (s : State) (l : Lcd) : (s.setLcd l).params = s.params := rfl
@[simp] theorem State.setLcd_events (s : State) (l : Lcd) : (s.setLcd l).events = s.events := rfl
@[simp] theorem State.setLcd_draws (s : State) (l : Lcd) : (s.setLcd l).draws = s.draws := rfl

/-! `State.setIrq` -/

@[simp] theorem State.setIrq_regs (s : State) (q : Irq) : (s.setIrq q).regs = s.regs := rfl
@[simp] theorem State.setIrq_irq (s : State) (q : Irq) : (s.setIrq q).irq = q := rfl
@[simp] theorem State.setIrq_mem (s : State) (q : Irq) : (s.setIrq q).mem = s.mem := rfl
@[simp] theorem State.setIrq_lcd (s : State) (q : Irq) : (s.setIrq q).lcd = s.lcd := rfl
@[simp] theorem State.setIrq_halted (s : State) (q : Irq) : (s.setIrq q).halted = s.halted := rfl
@[simp] theorem State.setIrq_fatal (s : State) (q : Irq) : (s.setIrq q).fatal = s.fatal := rfl
@[simp] theorem State.setIrq_cycles (s : State) (q : Irq) : (s.setIrq q).cycles = s.cycles := rfl
@[simp] theorem State.setIrq_params (s : State) (q : Irq) : (s.setIrq q).params = s.params := rfl
@[simp] theorem State.setIrq_events (s : State) (q : Irq) : (s.setIrq q).events = s.events := rfl
@[simp] theorem State.setIrq_draws (s : State) (q : Irq) : (s.setIrq q).draws = s.draws := rfl

/-! `State.setMem` -/

@[simp] theorem State.setMem_regs (s : State) (m : Stores) : (s.setMem m).regs = s.regs := rfl
@[simp] theorem State.setMem_irq (s : State) (m : Stores) : (s.setMem m).irq = s.irq := rfl
@[simp] theorem State.setMem_mem (s : State) (m : Stores) : (s.setMem m).mem = m := rfl
@[simp] theorem State.setMem_lcd (s : State) (m : Stores) : (s.setMem m).lcd = s.lcd := rfl
@[simp] theorem State.setMem_halted (s : State) (m : Stores) : (s.setMem m).halted = s.halted := rfl
@[simp] theorem State.setMem_fatal (s : State) (m : Stores) : (s.setMem m).fatal = s.fatal := rfl
@[simp] theorem State.setMem_cycles (s : State) (m : Stores) : (s.setMem m).cycles = s.cycles := rfl
@[simp] theorem State.setMem_params (s : State) (m : Stores) : (s.setMem m).params = s.params := rfl
@[simp] theorem State.setMem_events (s : State) (m : Stores) : (s.setMem m).events = s.events := rfl
@[simp] theorem State.setMem_draws (s : State) (m : Stores) : (s.setMem m).draws = s.draws := rfl

/-! `State.setRegs` -/

@[simp] theorem State.setRegs_regs (s : State) (r : Regs) : (s.setRegs r).regs = r := rfl
@[simp] theorem State.setRegs_irq (s : State) (r : Regs) : (s.setRegs r).irq = s.irq := rfl
@[simp] theorem State.setRegs_mem (s : State) (r : Regs) : (s.setRegs r).mem = s.mem := rfl
@[simp] theorem State.setRegs_lcd (s : State) (r : Regs) : (s.setRegs r).lcd = s.lcd := rfl
@[simp] theorem State.setRegs_halted (s : State) (r : Regs) : (s.setRegs r).halted = s.halted := rfl
@[simp] theorem State.setRegs_fatal (s : State) (r : Regs) : (s.setRegs r).fatal = s.fatal := rfl
@[simp] theorem State.setRegs_cycles (s : State) (r : Regs) : (s.setRegs r).cycles = s.cycles := rfl
@[simp] theorem State.setRegs_params (s : State) (r : Regs) : (s.setRegs r).params = s.params := rfl
@[simp] theorem State.setRegs_events (s : State) (r : Regs) : (s.setRegs r).events = s.events := rfl
@[simp] theorem State.setRegs_draws (s : State) (r : Regs) : (s.setRegs r).draws = s.draws := rfl

/-! `State.raise` -/

@[simp] theorem State.raise_regs (s : State) (e : FatalError) : (s.raise e).regs = s.regs := rfl
@[simp] theorem State.raise_irq (s : State) (e : FatalError) : (s.raise e).irq = s.irq := rfl
@[simp] theorem State.raise_mem (s : State) (e : FatalError) : (s.raise e).mem = s.mem := rfl
@[simp] theorem State.raise_lcd (s : State) (e : FatalError) : (s.raise e).lcd = s.lcd := rfl
@[simp] theorem State.raise_halted (s : State) (e : FatalError) : (s.raise e).halted = s.halted := rfl
@[simp] theorem State.raise_fatal (s : State) (e : FatalError) : (s.raise e).fatal = some e := rfl
@[simp] theorem State.raise_cycles (s : State) (e : FatalError) : (s.raise e).cycles = s.cycles := rfl
@[simp] theorem State.raise_params (s : State) (e : FatalError) : (s.raise e).params = s.params := rfl
@[simp] theorem State.raise_events (s : State) (e : FatalError) : (s.raise e).events = s.events := rfl
@[simp] theorem State.raise_draws (s : State) (e : FatalError) : (s.raise e).draws = s.draws := rfl

/-! `State.setPc` -/

@[simp] theorem State.setPc_regs (s : State) (w : Word) : (s.setPc w).regs = { s.regs with pc := w } := rfl
@[simp] theorem State.setPc_irq (s : State) (w : Word) : (s.setPc w).irq = s.irq := rfl
@[simp] theorem State.setPc_mem (s : State) (w : Word) : (s.setPc w).mem = s.mem := rfl
@[simp] theorem State.setPc_lcd (s : State) (w : Word) : (s.setPc w).lcd = s.lcd := rfl
@[simp] theorem State.setPc_halted (s : State) (w : Word) : (s.setPc w).halted = s.halted := rfl
@[simp] theorem State.setPc_fatal (s : State) (w : Word) : (s.setPc w).fatal = s.fatal := rfl
@[simp] theorem State.setPc_cycles (s : State) (w : Word) : (s.setPc w).cycles = s.cycles := rfl
@[simp] theorem State.setPc_params (s : State) (w : Word) : (s.setPc w).params = s.params := rfl
@[simp] theorem State.setPc_events (s : State) (w : Word) : (s.setPc w).events = s.events := rfl
@[simp] theorem State.setPc_draws (s : State) (w : Word) : (s.setPc w).draws = s.draws := rfl

/-! `State.setSp` -/

@[simp] theorem State.setSp_regs (s : State) (w : Word) : (s.setSp w).regs = { s.regs with sp := w } := rfl
@[simp] theorem State.setSp_irq (s : State) (w : Word) : (s.setSp w).irq = s.irq := rfl
@[simp] theorem State.setSp_mem (s : State) (w : Word) : (s.setSp w).mem = s.mem := rfl
@[simp] theorem State.setSp_lcd (s : State) (w : Word) : (s.setSp w).lcd = s.lcd := rfl
@[simp] theorem State.setSp_halted (s : State) (w : Word) : (s.setSp w).halted = s.halted := rfl
@[simp] theorem State.setSp_fatal (s : State) (w : Word) : (s.setSp w).fatal = s.fatal := rfl
@[simp] theorem State.setSp_cycles (s : State) (w : Word) : (s.setSp w).cycles = s.cycles := rfl
@[simp] theorem State.setSp_params (s : State) (w : Word) : (s.setSp w).params = s.params := rfl
@[simp] theorem State.setSp_events (s : State) (w : Word) : (s.setSp w).events = s.events := rfl
@[simp] theorem State.setSp_draws (s : State) (w : Word) : (s.setSp w).draws = s.draws := rfl

/-! `State.setZ` -/

@[simp] theorem State.setZ_regs (s : State) (on : Bool) : (s.setZ on).regs = s.regs.setZ on := rfl
@[simp] theorem State.setZ_irq (s : State) (on : Bool) : (s.setZ on).irq = s.irq := rfl
@[simp] theorem State.setZ_mem (s : State) (on : Bool) : (s.setZ on).mem = s.mem := rfl
@[simp] theorem State.setZ_lcd (s : State) (on : Bool) : (s.setZ on).lcd = s.lcd := rfl
@[simp] theorem State.setZ_halted (s : State) (on : Bool) : (s.setZ on).halted = s.halted := rfl
@[simp] theorem State.setZ_fatal (s : State) (on : Bool) : (s.setZ on).fatal = s.fatal := rfl
@[simp] theorem State.setZ_cycles (s : State) (on : Bool) : (s.setZ on).cycles = s.cycles := rfl
@[simp] theorem State.setZ_params (s : State) (on : Bool) : (s.setZ on).params = s.params := rfl
@[simp] theorem State.setZ_events (s : State) (on : Bool) : (s.setZ on).events = s.events := rfl
@[simp] theorem State.setZ_draws (s : State) (on : Bool) : (s.setZ on).draws = s.draws := rfl

/-! `State.setC` -/

@[simp] theorem State.setC_regs (s : State) (on : Bool) : (s.setC on).regs = s.regs.setC on := rfl
@[simp] theorem State.setC_irq (s : State) (on : Bool) : (s.setC on).irq = s.irq := rfl
@[simp] theorem State.setC_mem (s : State) (on : Bool) : (s.setC on).mem = s.mem := rfl
@[simp] theorem State.setC_lcd (s : State) (on : Bool) : (s.setC on).lcd = s.lcd := rfl
@[simp] theorem State.setC_halted (s : State) (on : Bool) : (s.setC on).halted = s.halted := rfl
@[simp] theorem State.setC_fatal (s : State) (on : Bool) : (s.setC on).fatal = s.fatal := rfl
@[simp] theorem State.setC_cycles (s : State) (on : Bool) : (s.setC on).cycles = s.cycles := rfl
@[simp] theorem State.setC_params (s : State) (on : Bool) : (s.setC on).params = s.params := rfl
@[simp] theorem State.setC_events (s : State) (on : Bool) : (s.setC on).events = s.events := rfl
@[simp] theorem State.setC_draws (s : State) (on : Bool) : (s.setC on).draws = s.draws := rfl

/-! `State.setIme` -/

@[simp] theorem State.setIme_regs (s : State) (on : Bool) : (s.setIme on).regs = s.regs := rfl
@[simp] theorem State.setIme_irq (s : State) (on : Bool) : (s.setIme on).irq = { s.irq with ime := on } := rfl
@[simp] theorem State.setIme_mem (s : State) (on : Bool) : (s.setIme on).mem = s.mem := rfl
@[simp] theorem State.setIme_lcd (s : State) (on : Bool) : (s.setIme on).lcd = s.lcd := rfl
@[simp] theorem State.setIme_halted (s : State) (on : Bool) : (s.setIme on).halted = s.halted := rfl
@[simp] theorem State.setIme_fatal (s : State) (on : Bool) : (s.setIme on).fatal = s.fatal := rfl
@[simp] theorem State.setIme_cycles (s : State) (on : Bool) : (s.setIme on).cycles = s.cycles := rfl
@[simp] theorem State.setIme_params (s : State) (on : Bool) : (s.setIme on).params = s.params := rfl
@[simp] theorem State.setIme_events (s : State) (on : Bool) : (s.setIme on).events = s.events := rfl
@[simp] theorem State.setIme_draws (s : State) (on : Bool) : (s.setIme on).draws = s.draws := rfl

/-! `State.setHalted` -/

@[simp] theorem State.setHalted_regs (s : State) (on : Bool) : (s.setHalted on).regs = s.regs := rfl
@[simp] theorem State.setHalted_irq (s : State) (on : Bool) : (s.setHalted on).irq = s.irq := rfl
@[simp] theorem State.setHalted_mem (s : State) (on : Bool) : (s.setHalted on).mem = s.mem := rfl
@[simp] theorem State.setHalted_lcd (s : State) (on : Bool) : (s.setHalted on).lcd = s.lcd := rfl
@[simp] theorem State.setHalted_halted (s : State) (on : Bool) : (s.setHalted on).halted = on := rfl
@[simp] theorem State.setHalted_fatal (s : State) (on : Bool) : (s.setHalted on).fatal = s.fatal := rfl
@[simp] theorem State.setHalted_cycles (s : State) (on : Bool) : (s.setHalted on).cycles = s.cycles := rfl
@[simp] theorem State.setHalted_params (s : State) (on : Bool) : (s.setHalted on).params = s.params := rfl
@[simp] theorem State.setHalted_events (s : State) (on : Bool) : (s.setHalted on).events = s.events := rfl
@[simp] theorem State.setHalted_draws (s : State) (on : Bool) : (s.setHalted on).draws = s.draws := rfl

/-! `State.addCycles` -/

@[simp] theorem State.addCycles_regs (s : State) (n : Nat) : (s.addCycles n).regs = s.regs := rfl
@[simp] theorem State.addCycles_irq (s : State) (n : Nat) : (s.addCycles n).irq = s.irq := rfl
@[simp] theorem State.addCycles_mem (s : State) (n : Nat) : (s.addCycles n).mem = s.mem := rfl
@[simp] theorem State.addCycles_lcd (s : State) (n : Nat) : (s.addCycles n).lcd = s.lcd := rfl
@[simp] theorem State.addCycles_halted (s : State) (n : Nat) : (s.addCycles n).halted = s.halted := rfl
@[simp] theorem State.addCycles_fatal (s : State) (n : Nat) : (s.addCycles n).fatal = s.fatal := rfl
@[simp] theorem State.addCycles_cycles (s : State) (n : Nat) : (s.addCycles n).cycles = s.cycles + n := rfl
@[simp] theorem State.addCycles_params (s : State) (n : Nat) : (s.addCycles n).params = s.params := rfl
@[simp] theorem State.addCycles_events (s : State) (n : Nat) : (s.addCycles n).events = s.events := rfl
@[simp] theorem State.addCycles_draws (s : State) (n : Nat) : (s.addCycles n).draws = s.draws := rfl

/-! `State.setHN` writes H, N and the draw counter only -/

@[simp] theorem State.setHN_irq (s : State) (h n : Bool) : (s.setHN h n).irq = s.irq := by
  unfold State.setHN; split <;> rfl
@[simp] theorem State.setHN_mem (s : State) (h n : Bool) : (s.setHN h n).mem = s.mem := by
  unfold State.setHN; split <;> rfl
@[simp] theorem State.setHN_lcd (s : State) (h n : Bool) : (s.setHN h n).lcd = s.lcd := by
  unfold State.setHN; split <;> rfl
@[simp] theorem State.setHN_halted (s : State) (h n : Bool) : (s.setHN h n).halted = s.halted := by
  unfold State.setHN; split <;> rfl
@[simp] theorem State.setHN_fatal (s : State) (h n : Bool) : (s.setHN h n).fatal = s.fatal := by
  unfold State.setHN; split <;> rfl
@[simp] theorem State.setHN_cycles (s : State) (h n : Bool) : (s.setHN h n).cycles = s.cycles := by
  unfold State.setHN; split <;> rfl
@[simp] theorem State.setHN_params (s : State) (h n : Bool) : (s.setHN h n).params = s.params := by
  unfold State.setHN; split <;> rfl
@[simp] theorem State.setHN_events (s : State) (h n : Bool) : (s.setHN h n).events = s.events := by
  unfold State.setHN; split <;> rfl

/-! `Regs.setZ` -/

@[simp] theorem Regs.setZ_a (r : Regs) (on : Bool) : (r.setZ on).a = r.a := rfl
@[simp] theorem Regs.setZ_b (r : Regs) (on : Bool) : (r.setZ on).b = r.b := rfl
@[simp] theorem Regs.setZ_c (r : Regs) (on : Bool) : (r.setZ on).c = r.c := rfl
@[simp] theorem Regs.setZ_d (r : Regs) (on : Bool) : (r.setZ on).d = r.d := rfl
@[simp] theorem Regs.setZ_e (r : Regs) (on : Bool) : (r.setZ on).e = r.e := rfl
@[simp] theorem Regs.setZ_h (r : Regs) (on : Bool) : (r.setZ on).h = r.h := rfl
@[simp] theorem Regs.setZ_l (r : Regs) (on : Bool) : (r.setZ on).l = r.l := rfl
@[simp] theorem Regs.setZ_sp (r : Regs) (on : Bool) : (r.setZ on).sp = r.sp := rfl
@[simp] theorem Regs.setZ_pc (r : Regs) (on : Bool) : (r.setZ on).pc = r.pc := rfl
@[simp] theorem Regs.setZ_flags_z (r : Regs) (on : Bool) : (r.setZ on).flags.z = on := rfl
@[simp] theorem Regs.setZ_flags_n (r : Regs) (on : Bool) : (r.setZ on).flags.n = r.flags.n := rfl
@[simp] theorem Regs.setZ_flags_h (r : Regs) (on : Bool) : (r.setZ on).flags.h = r.flags.h := rfl
@[simp] theorem Regs.setZ_flags_c (r : Regs) (on : Bool) : (r.setZ on).flags.c = r.flags.c := rfl
@[simp] theorem Regs.setZ_bc (r : Regs) (on : Bool) : (r.setZ on).bc = r.bc := rfl
@[simp] theorem Regs.setZ_de (r : Regs) (on : Bool) : (r.setZ on).de = r.de := rfl
@[simp] theorem Regs.setZ_hl (r : Regs) (on : Bool) : (r.setZ on).hl = r.hl := rfl

/-! `Regs.setN` -/

@[simp] theorem Regs.setN_a (r : Regs) (on : Bool) : (r.setN on).a = r.a := rfl
@[simp] theorem Regs.setN_b (r : Regs) (on : Bool) : (r.setN on).b = r.b := rfl
@[simp] theorem Regs.setN_c (r : Regs) (on : Bool) : (r.setN on).c = r.c := rfl
@[simp] theorem Regs.setN_d (r : Regs) (on : Bool) : (r.setN on).d = r.d := rfl
@[simp] theorem Regs.setN_e (r : Regs) (on : Bool) : (r.setN on).e = r.e := rfl
@[simp] theorem Regs.setN_h (r : Regs) (on : Bool) : (r.setN on).h = r.h := rfl
@[simp] theorem Regs.setN_l (r : Regs) (on : Bool) : (r.setN on).l = r.l := rfl
@[simp] theorem Regs.setN_sp (r : Regs) (on : Bool) : (r.setN on).sp = r.sp := rfl
@[simp] theorem Regs.setN_pc (r : Regs) (on : Bool) : (r.setN on).pc = r.pc := rfl
@[simp] theorem Regs.setN_flags_z (r : Regs) (on : Bool) : (r.setN on).flags.z = r.flags.z := rfl
@[simp] theorem Regs.setN_flags_n (r : Regs) (on : Bool) : (r.setN on).flags.n = on := rfl
@[simp] theorem Regs.setN_flags_h (r : Regs) (on : Bool) : (r.setN on).flags.h = r.flags.h := rfl
@[simp] theorem Regs.setN_flags_c (r : Regs) (on : Bool) : (r.setN on).flags.c = r.flags.c := rfl
@[simp] theorem Regs.setN_bc (r : Regs) (on : Bool) : (r.setN on).bc = r.bc := rfl
@[simp] theorem Regs.setN_de (r : Regs) (on : Bool) : (r.setN on).de = r.de := rfl
@[simp] theorem Regs.setN_hl (r : Regs) (on : Bool) : (r.setN on).hl = r.hl := rfl

/-! `Regs.setH` -/

@[simp] theorem Regs.setH_a (r : Regs) (on : Bool) : (r.setH on).a = r.a := rfl
@[simp] theorem Regs.setH_b (r : Regs) (on : Bool) : (r.setH on).b = r.b := rfl
@[simp] theorem Regs.setH_c (r : Regs) (on : Bool) : (r.setH on).c = r.c := rfl
@[simp] theorem Regs.setH_d (r : Regs) (on : Bool) : (r.setH on).d = r.d := rfl
@[simp] theorem Regs.setH_e (r : Regs) (on : Bool) : (r.setH on).e = r.e := rfl
@[simp] theorem Regs.setH_h (r : Regs) (on : Bool) : (r.setH on).h = r.h := rfl
@[simp] theorem Regs.setH_l (r : Regs) (on : Bool) : (r.setH on).l = r.l := rfl
@[simp] theorem Regs.setH_sp (r : Regs) (on : Bool) : (r.setH on).sp = r.sp := rfl
@[simp] theorem Regs.setH_pc (r : Regs) (on : Bool) : (r.setH on).pc = r.pc := rfl
@[simp] theorem Regs.setH_flags_z (r : Regs) (on : Bool) : (r.setH on).flags.z = r.flags.z := rfl
@[simp] theorem Regs.setH_flags_n (r : Regs) (on : Bool) : (r.setH on).flags.n = r.flags.n := rfl
@[simp] theorem Regs.setH_flags_h (r : Regs) (on : Bool) : (r.setH on).flags.h = on := rfl
@[simp] theorem Regs.setH_flags_c (r : Regs) (on : Bool) : (r.setH on).flags.c = r.flags.c := rfl
@[simp] theorem Regs.setH_bc (r : Regs) (on : Bool) : (r.setH on).bc = r.bc := rfl
@[simp] theorem Regs.setH_de (r : Regs) (on : Bool) : (r.setH on).de = r.de := rfl
@[simp] theorem Regs.setH_hl (r : Regs) (on : Bool) : (r.setH on).hl = r.hl := rfl

/-! `Regs.setC` -/

@[simp] theorem Regs.setC_a (r : Regs) (on : Bool) : (r.setC on).a = r.a := rfl
@[simp] theorem Regs.setC_b (r : Regs) (on : Bool) : (r.setC on).b = r.b := rfl
@[simp] theorem Regs.setC_c (r : Regs) (on : Bool) : (r.setC on).c = r.c := rfl
@[simp] theorem Regs.setC_d (r : Regs) (on : Bool) : (r.setC on).d = r.d := rfl
@[simp] theorem Regs.setC_e (r : Regs) (on : Bool) : (r.setC on).e = r.e := rfl
@[simp] theorem Regs.setC_h (r : Regs) (on : Bool) : (r.setC on).h = r.h := rfl
@[simp] theorem Regs.setC_l (r : Regs) (on : Bool) : (r.setC on).l = r.l := rfl
@[simp] theorem Regs.setC_sp (r : Regs) (on : Bool) : (r.setC on).sp = r.sp := rfl
@[simp] theorem Regs.setC_pc (r : Regs) (on : Bool) : (r.setC on).pc = r.pc := rfl
@[simp] theorem Regs.setC_flags_z (r : Regs) (on : Bool) : (r.setC on).flags.z = r.flags.z := rfl
@[simp] theorem Regs.setC_flags_n (r : Regs) (on : Bool) : (r.setC on).flags.n = r.flags.n := rfl
@[simp] theorem Regs.setC_flags_h (r : Regs) (on : Bool) : (r.setC on).flags.h = r.flags.h := rfl
@[simp] theorem Regs.setC_flags_c (r : Regs) (on : Bool) : (r.setC on).flags.c = on := rfl
@[simp] theorem Regs.setC_bc (r : Regs) (on : Bool) : (r.setC on).bc = r.bc := rfl
@[simp] theorem Regs.setC_de (r : Regs) (on : Bool) : (r.setC on).de = r.de := rfl
@[simp] theorem Regs.setC_hl (r : Regs) (on : Bool) : (r.setC on).hl = r.hl := rfl

/-! `State.setHN` on the registers: every register but F, and F's Z and C, as before -/

@[simp] theorem State.setHN_regs_a (s : State) (h n : Bool) : (s.setHN h n).regs.a = s.regs.a := by
  unfold State.setHN; split <;> rfl
@[simp] theorem State.setHN_regs_b (s : State) (h n : Bool) : (s.setHN h n).regs.b = s.regs.b := by
  unfold State.setHN; split <;> rfl
@[simp] theorem State.setHN_regs_c (s : State) (h n : Bool) : (s.setHN h n).regs.c = s.regs.c := by
  unfold State.setHN; split <;> rfl
@[simp] theorem State.setHN_regs_d (s : State) (h n : Bool) : (s.setHN h n).regs.d = s.regs.d := by
  unfold State.setHN; split <;> rfl
@[simp] theorem State.setHN_regs_e (s : State) (h n : Bool) : (s.setHN h n).regs.e = s.regs.e := by
  unfold State.setHN; split <;> rfl
@[simp] theorem State.setHN_regs_h (s : State) (h n : Bool) : (s.setHN h n).regs.h = s.regs.h := by
  unfold State.setHN; split <;> rfl
@[simp] theorem State.setHN_regs_l (s : State) (h n : Bool) : (s.setHN h n).regs.l = s.regs.l := by
  unfold State.setHN; split <;> rfl
@[simp] theorem State.setHN_regs_sp (s : State) (h n : Bool) : (s.setHN h n).regs.sp = s.regs.sp := by
  unfold State.setHN; split <;> rfl
@[simp] theorem State.setHN_regs_pc (s : State) (h n : Bool) : (s.setHN h n).regs.pc = s.regs.pc := by
  unfold State.setHN; split <;> rfl
@[simp] theorem State.setHN_regs_flags_z (s : State) (h n : Bool) : (s.setHN h n).regs.flags.z = s.regs.flags.z := by
  unfold State.setHN; split <;> rfl
@[simp] theorem State.setHN_regs_flags_c (s : State) (h n : Bool) : (s.setHN h n).regs.flags.c = s.regs.flags.c := by
  unfold State.setHN; split <;> rfl
@[simp] theorem State.setHN_regs_bc (s : State) (h n : Bool) : (s.setHN h n).regs.bc = s.regs.bc := by
  unfold State.setHN; split <;> rfl
@[simp] theorem State.setHN_regs_de (s : State) (h n : Bool) : (s.setHN h n).regs.de = s.regs.de := by
  unfold State.setHN; split <;> rfl
@[simp] theorem State.setHN_regs_hl (s : State) (h n : Bool) : (s.setHN h n).regs.hl = s.regs.hl := by
  unfold State.setHN; split <;> rfl

end Sys2Proof.Machine
end

