-- ==== Sys2Proof/Laws/Bus.lean ====
section
/-! SUPPORT. The laws of the bus: what a read depends on, what a write leaves alone, and that a write keeps the state
invariant. -/

namespace Sys2Proof.Machine

/-! The display's writes -/

@[simp] theorem render_regs (s : State) : (render s).regs = s.regs := by
  unfold render; split <;> rfl

@[simp] theorem render_irq (s : State) : (render s).irq = s.irq := by
  unfold render; split <;> rfl

@[simp] theorem render_mem (s : State) : (render s).mem = s.mem := by
  unfold render; split <;> rfl

@[simp] theorem render_halted (s : State) : (render s).halted = s.halted := by
  unfold render; split <;> rfl

@[simp] theorem render_fatal (s : State) : (render s).fatal = s.fatal := by
  unfold render; split <;> rfl

@[simp] theorem render_cycles (s : State) : (render s).cycles = s.cycles := by
  unfold render; split <;> rfl

@[simp] theorem render_params (s : State) : (render s).params = s.params := by
  unfold render; split <;> rfl

@[simp] theorem render_draws (s : State) : (render s).draws = s.draws := by
  unfold render; split <;> rfl

@[simp] theorem lcdWrite_regs (s : State) (k : Nat) (v : Byte) : (lcdWrite s k v).regs = s.regs := by
  unfold lcdWrite; split <;> (try split) <;> simp

@[simp] theorem lcdWrite_irq (s : State) (k : Nat) (v : Byte) : (lcdWrite s k v).irq = s.irq := by
  unfold lcdWrite; split <;> (try split) <;> simp

@[simp] theorem lcdWrite_mem (s : State) (k : Nat) (v : Byte) : (lcdWrite s k v).mem = s.mem := by
  unfold lcdWrite; split <;> (try split) <;> simp

@[simp] theorem lcdWrite_halted (s : State) (k : Nat) (v : Byte) : (lcdWrite s k v).halted = s.halted := by
  unfold lcdWrite; split <;> (try split) <;> simp

@[simp] theorem lcdWrite_fatal (s : State) (k : Nat) (v : Byte) : (lcdWrite s k v).fatal = s.fatal := by
  unfold lcdWrite; split <;> (try split) <;> simp

@[simp] theorem lcdWrite_cycles (s : State) (k : Nat) (v : Byte) : (lcdWrite s k v).cycles = s.cycles := by
  unfold lcdWrite; split <;> (try split) <;> simp

@[simp] theorem lcdWrite_params (s : State) (k : Nat) (v : Byte) : (lcdWrite s k v).params = s.params := by
  unfold lcdWrite; split <;> (try split) <;> simp

@[simp] theorem lcdWrite_draws (s : State) (k : Nat) (v : Byte) : (lcdWrite s k v).draws = s.draws := by
  unfold lcdWrite; split <;> (try split) <;> simp

/-- A render puts nothing but a framebuffer in the display. -/
theorem render_lcd (s : State) : (render s).lcd = { s.lcd with fb := (render s).lcd.fb } := by
  unfold render; split <;> rfl

/-- A display write leaves LY (rule R443). -/
@[simp] theorem lcdWrite_ly (s : State) (k : Nat) (v : Byte) : (lcdWrite s k v).lcd.ly = s.lcd.ly := by
  unfold lcdWrite; split <;> (try split) <;> (try rw [render_lcd]) <;> rfl

/-! What a bus write leaves alone -/

@[simp] theorem write8_regs (s : State) (a : Word) (v : Byte) : (write8 s a v).regs = s.regs := by
  unfold write8; split <;> (try split) <;> simp

@[simp] theorem write8_halted (s : State) (a : Word) (v : Byte) : (write8 s a v).halted = s.halted := by
  unfold write8; split <;> (try split) <;> simp

@[simp] theorem write8_fatal (s : State) (a : Word) (v : Byte) : (write8 s a v).fatal = s.fatal := by
  unfold write8; split <;> (try split) <;> simp

@[simp] theorem write8_cycles (s : State) (a : Word) (v : Byte) : (write8 s a v).cycles = s.cycles := by
  unfold write8; split <;> (try split) <;> simp

@[simp] theorem write8_params (s : State) (a : Word) (v : Byte) : (write8 s a v).params = s.params := by
  unfold write8; split <;> (try split) <;> simp

@[simp] theorem write8_draws (s : State) (a : Word) (v : Byte) : (write8 s a v).draws = s.draws := by
  unfold write8; split <;> (try split) <;> simp

@[simp] theorem write8_ime (s : State) (a : Word) (v : Byte) : (write8 s a v).irq.ime = s.irq.ime := by
  unfold write8; split <;> (try split) <;> simp

@[simp] theorem write8_imePrev (s : State) (a : Word) (v : Byte) : (write8 s a v).irq.imePrev = s.irq.imePrev := by
  unfold write8; split <;> (try split) <;> simp

@[simp] theorem write8_boot (s : State) (a : Word) (v : Byte) : (write8 s a v).mem.boot = s.mem.boot := by
  unfold write8; split <;> (try split) <;> simp

@[simp] theorem write8_cart (s : State) (a : Word) (v : Byte) : (write8 s a v).mem.cart = s.mem.cart := by
  unfold write8; split <;> (try split) <;> simp

@[simp] theorem write8_cartSize (s : State) (a : Word) (v : Byte) : (write8 s a v).mem.cartSize = s.mem.cartSize := by
  unfold write8; split <;> (try split) <;> simp

@[simp] theorem write8_ly (s : State) (a : Word) (v : Byte) : (write8 s a v).lcd.ly = s.lcd.ly := by
  unfold write8; split <;> (try split) <;> simp

/-- A bus write never enables the boot ROM (rule R38). -/
theorem write8_bootEnabled (s : State) (a : Word) (v : Byte) (h : s.mem.bootEnabled = false) :
    (write8 s a v).mem.bootEnabled = false := by
  unfold write8; split <;> (try split) <;> simp [h]

@[simp] theorem write16_regs (s : State) (a w : Word) : (write16 s a w).regs = s.regs := by
  simp [write16]

@[simp] theorem write16_halted (s : State) (a w : Word) : (write16 s a w).halted = s.halted := by
  simp [write16]

@[simp] theorem write16_fatal (s : State) (a w : Word) : (write16 s a w).fatal = s.fatal := by
  simp [write16]

@[simp] theorem write16_cycles (s : State) (a w : Word) : (write16 s a w).cycles = s.cycles := by
  simp [write16]

@[simp] theorem write16_params (s : State) (a w : Word) : (write16 s a w).params = s.params := by
  simp [write16]

@[simp] theorem write16_draws (s : State) (a w : Word) : (write16 s a w).draws = s.draws := by
  simp [write16]

@[simp] theorem write16_ime (s : State) (a w : Word) : (write16 s a w).irq.ime = s.irq.ime := by
  simp [write16]

@[simp] theorem write16_imePrev (s : State) (a w : Word) : (write16 s a w).irq.imePrev = s.irq.imePrev := by
  simp [write16]

@[simp] theorem write16_boot (s : State) (a w : Word) : (write16 s a w).mem.boot = s.mem.boot := by
  simp [write16]

@[simp] theorem write16_cart (s : State) (a w : Word) : (write16 s a w).mem.cart = s.mem.cart := by
  simp [write16]

@[simp] theorem write16_cartSize (s : State) (a w : Word) : (write16 s a w).mem.cartSize = s.mem.cartSize := by
  simp [write16]

@[simp] theorem write16_ly (s : State) (a w : Word) : (write16 s a w).lcd.ly = s.lcd.ly := by
  simp [write16]

/-- What a read depends on. -/
theorem read8_congr {s t : State} (hm : t.mem = s.mem) (hi : t.irq = s.irq) (hl : t.lcd = s.lcd)
    (hp : t.params = s.params) (a : Word) : read8 t a = read8 s a := by
  simp only [read8, lcdRead, ifRead, hm, hi, hl, hp]

/-- What a read depends on, the interrupt state to its counters and mask. -/
theorem read8_congr_irq {s t : State} (hm : t.mem = s.mem) (hq : t.irq.pending = s.irq.pending)
    (he : t.irq.ie = s.irq.ie) (hl : t.lcd = s.lcd) (hp : t.params = s.params) (a : Word) : read8 t a = read8 s a := by
  simp only [read8, lcdRead, ifRead, hm, hq, he, hl, hp]

/-- A word read depends on the same. -/
theorem read16_congr {s t : State} (hm : t.mem = s.mem) (hi : t.irq = s.irq) (hl : t.lcd = s.lcd)
    (hp : t.params = s.params) (a : Word) : read16 t a = read16 s a := by
  simp only [read16, read8_congr hm hi hl hp]

theorem render_setRegs (s : State) (r : Regs) : render (s.setRegs r) = (render s).setRegs r := by
  unfold render
  rw [State.setRegs_lcd, State.setRegs_mem, State.setRegs_params]
  split <;> rfl

theorem lcdWrite_setRegs (s : State) (r : Regs) (k : Nat) (v : Byte) :
    lcdWrite (s.setRegs r) k v = (lcdWrite s k v).setRegs r := by
  have h (l : Lcd) : (s.setRegs r).setLcd l = (s.setLcd l).setRegs r := rfl
  have h' (ev : Event) : (s.setRegs r).log ev = (s.log ev).setRegs r := rfl
  unfold lcdWrite
  simp only [State.setRegs_params, State.setRegs_lcd, h, h', render_setRegs]
  split <;> (try split) <;> rfl

/-- A write does not look at the registers. -/
theorem write8_setRegs (s : State) (r : Regs) (a : Word) (v : Byte) :
    write8 (s.setRegs r) a v = (write8 s a v).setRegs r := by
  have h (q : Irq) : (s.setRegs r).setIrq q = (s.setIrq q).setRegs r := rfl
  have h' (ev : Event) : (s.setRegs r).log ev = (s.log ev).setRegs r := rfl
  have h'' (m : Stores) : (s.setRegs r).setMem m = (s.setMem m).setRegs r := rfl
  simp only [write8, State.setRegs_mem, State.setRegs_irq, lcdWrite_setRegs, h, h', h'']
  split <;> (try split) <;> rfl

/-- A word write does not look at the registers. -/
theorem write16_setRegs (s : State) (r : Regs) (a w : Word) : write16 (s.setRegs r) a w = (write16 s a w).setRegs r := by
  simp only [write16, write8_setRegs]

/-! The routes -/

/-- Where the routes lie (rules R60, R66 to R70). -/
theorem route_range (m : Stores) (a : Word) :
    (route m a = .vram → 0x8000 ≤ a.toNat ∧ a.toNat ≤ 0x9FFF) ∧ (route m a = .wram → 0xC000 ≤ a.toNat ∧ a.toNat ≤ 0xDFFF)
      ∧ (route m a = .wramMirror → 0xE000 ≤ a.toNat ∧ a.toNat ≤ 0xFDFF)
      ∧ (route m a = .hram → 0xFF80 ≤ a.toNat ∧ a.toNat ≤ 0xFFFE)
      ∧ (route m a = .lcd → 0xFF40 ≤ a.toNat ∧ a.toNat ≤ 0xFF4F) ∧ (route m a = .bootLatch → a.toNat = 0xFF50)
      ∧ (route m a = .boot → a.toNat < 0x100) ∧ (route m a = .irqFlags → a.toNat = 0xFF0F)
      ∧ (route m a = .irqEnable → a.toNat = 0xFFFF) := by
  unfold route
  split_ifs <;> refine ⟨?_, ?_, ?_, ?_, ?_, ?_, ?_, ?_, ?_⟩ <;> intro h <;> (try cases h) <;> first | assumption | exact And.left ‹_›

/-- What a route depends on. -/
theorem route_congr {m m' : Stores} (hb : m'.bootEnabled = m.bootEnabled) (hc : m'.cartSize = m.cartSize) (a : Word) :
    route m' a = route m a := by
  simp only [route, hb, hc]

/-! The state invariant -/

/-- Folding a function that keeps a property keeps it. -/
theorem foldl_keeps {β γ : Type} (P : β → Prop) (f : β → γ → β) (l : List γ) (b : β) (hb : P b)
    (hf : ∀ b c, P b → P (f b c)) : P (l.foldl f b) := by
  induction l generalizing b with
  | nil => exact hb
  | cons c cs ih => exact ih (f b c) (hf b c hb)

/-- The framebuffer a render leaves is in canonical form. -/
theorem renderedFb_wf (vram : List Host.Cell) (l : Lcd) (margin : Nat) :
    Memory.wf Shade.white (160 * 144) (renderedFb vram l margin) = true := by
  refine foldl_keeps (fun fb => Memory.wf Shade.white (160 * 144) fb = true) _ _ _ rfl fun fb i h => ?_
  refine foldl_keeps (fun fb => Memory.wf Shade.white (160 * 144) fb = true) _ _ _ h fun fb j h => ?_
  refine foldl_keeps (fun fb => Memory.wf Shade.white (160 * 144) fb = true) _ _ _ h fun fb py h => ?_
  refine foldl_keeps (fun fb => Memory.wf Shade.white (160 * 144) fb = true) _ _ _ h fun fb px h => ?_
  unfold paintPixel
  simp only
  split
  · exact h
  · refine Memory.wf_write _ h ?_
    unfold Lcd.pixelRow Lcd.pixelColumn
    omega

/-- A render keeps the display invariant. -/
theorem render_lcd_wf (s : State) (h : s.lcd.wf = true) : (render s).lcd.wf = true := by
  unfold render
  split
  · simp only [Lcd.wf, Bool.and_eq_true] at h ⊢
    exact ⟨⟨⟨renderedFb_wf _ _ _, h.1.1.2⟩, h.1.2⟩, h.2⟩
  · exact h

/-- A display write keeps the display invariant. -/
theorem lcdWrite_lcd_wf (s : State) (k : Nat) (v : Byte) (h : s.lcd.wf = true) : (lcdWrite s k v).lcd.wf = true := by
  unfold lcdWrite
  split <;> (try split) <;> (try apply render_lcd_wf) <;> simp_all [Lcd.wf]

/-- A bus write keeps the state invariant. -/
theorem write8_inv (s : State) (a : Word) (v : Byte) (h : s.Inv) : (write8 s a v).Inv := by
  obtain ⟨hm, hl⟩ := h
  obtain ⟨h1, h2, h3, h4, -⟩ := route_range s.mem a
  have hm' := hm
  simp only [Stores.wf, Bool.and_eq_true] at hm'
  have hs {m : Stores} (hw : m.wf = true) : (s.setMem m).Inv := ⟨hw, hl⟩
  have hlog (ev : Event) : (s.log ev).Inv := ⟨hm, hl⟩
  unfold write8
  simp only [writeByte]
  split
  · exact hlog _
  · exact hlog _
  · next hr =>
    have := h1 hr
    refine hs ?_
    simp only [Stores.wf, Bool.and_eq_true]
    exact ⟨⟨⟨hm'.1.1.1, Memory.wf_write v hm'.1.1.2 (by omega)⟩, hm'.1.2⟩, hm'.2⟩
  · next hr =>
    have := h2 hr
    refine hs ?_
    simp only [Stores.wf, Bool.and_eq_true]
    exact ⟨⟨hm'.1.1, Memory.wf_write v hm'.1.2 (by omega)⟩, hm'.2⟩
  · next hr =>
    have := h3 hr
    refine hs ?_
    simp only [Stores.wf, Bool.and_eq_true]
    exact ⟨⟨hm'.1.1, Memory.wf_write v hm'.1.2 (by omega)⟩, hm'.2⟩
  · next hr =>
    have := h4 hr
    refine hs ?_
    simp only [Stores.wf, Bool.and_eq_true]
    exact ⟨hm'.1, Memory.wf_write v hm'.2 (by omega)⟩
  · exact ⟨by rw [lcdWrite_mem]; exact hm, lcdWrite_lcd_wf s _ v hl⟩
  · exact ⟨hm, hl⟩
  · exact ⟨hm, hl⟩
  · exact hlog _
  · split
    · exact hs hm
    · exact ⟨hm, hl⟩
  · exact hlog _

/-- A word write keeps the state invariant. -/
theorem write16_inv (s : State) (a w : Word) (h : s.Inv) : (write16 s a w).Inv :=
  write8_inv _ _ _ (write8_inv _ _ _ h)

/-! A read after a write -/

theorem lcdRead_congr {s t : State} (hl : t.lcd = s.lcd) (hp : t.params = s.params) (k : Nat) :
    lcdRead t k = lcdRead s k := by
  unfold lcdRead; rw [hl, hp]

theorem ifRead_congr {s t : State} (hq : t.irq = s.irq) (hp : t.params = s.params) : ifRead t = ifRead s := by
  unfold ifRead; rw [hq, hp]

/-- Two reads agree when they take the same route and what answers there agrees. -/
theorem read8_ext {s t : State} {b : Word} (hr : route t.mem b = route s.mem b) (hb : t.mem.boot = s.mem.boot)
    (hc : t.mem.cart = s.mem.cart) (hn : t.mem.cartSize = s.mem.cartSize) (hp : t.params = s.params)
    (hv : route s.mem b = .vram → readByte t.mem.vram (b.toNat - 0x8000) = readByte s.mem.vram (b.toNat - 0x8000))
    (hw : route s.mem b = .wram → readByte t.mem.wram (b.toNat - 0xC000) = readByte s.mem.wram (b.toNat - 0xC000))
    (hm : route s.mem b = .wramMirror →
      readByte t.mem.wram (b.toNat - 0xE000) = readByte s.mem.wram (b.toNat - 0xE000))
    (hh : route s.mem b = .hram → readByte t.mem.hram (b.toNat - 0xFF80) = readByte s.mem.hram (b.toNat - 0xFF80))
    (hl : route s.mem b = .lcd → lcdRead t (b.toNat - 0xFF40) = lcdRead s (b.toNat - 0xFF40))
    (hf : route s.mem b = .irqFlags → ifRead t = ifRead s) (he : route s.mem b = .irqEnable → t.irq.ie = s.irq.ie) :
    read8 t b = read8 s b := by
  unfold read8
  rw [hr]
  cases h : route s.mem b
  case boot => simp only [hb]
  case cart => simp only [hc, hn]
  case vram => simp only [hv h]
  case wram => simp only [hw h]
  case wramMirror => simp only [hm h]
  case hram => simp only [hh h]
  case lcd => simp only [hl h]
  case irqFlags => simp only [hf h]
  case irqEnable => simp only [he h]
  case joypad => simp only [hp]
  case bootLatch => rfl
  case unmapped => rfl

/-- A display write leaves the reads of the other sub-addresses. -/
theorem lcdRead_lcdWrite_other (s : State) {k j : Nat} (v : Byte) (h : j ≠ k) :
    lcdRead (lcdWrite s k v) j = lcdRead s j := by
  have hr (t : State) : lcdRead (render t) j = lcdRead t j := by
    unfold lcdRead; simp only [render_params]; rw [render_lcd]
  have hlog (ev : Event) : lcdRead (s.log ev) j = lcdRead s j := lcdRead_congr rfl rfl j
  unfold lcdWrite
  split <;> (try split) <;> (try rw [hr]) <;> (try exact hlog _) <;>
    (unfold lcdRead; simp only [State.setLcd_lcd, State.setLcd_params]; split <;> first | rfl | exact absurd rfl h)

/-- IF and IE have one address each. -/
theorem route_irq_unique {m : Stores} {a b : Word} (h : route m b = route m a)
    (ha : route m a = .irqFlags ∨ route m a = .irqEnable) : a.toNat = b.toNat := by
  obtain ⟨-, -, -, -, -, -, -, ha1, ha2⟩ := route_range m a
  obtain ⟨-, -, -, -, -, -, -, hb1, hb2⟩ := route_range m b
  obtain ha | ha := ha
  · rw [ha1 ha, hb1 (h.trans ha)]
  · rw [ha2 ha, hb2 (h.trans ha)]

/-- A write leaves every address that does not name the written byte, but for what turning the boot ROM off uncovers
(rules R62, R70, R73). -/
theorem read8_write8_other (s : State) (a b : Word) (v : Byte) (hp : place s.mem b ≠ place s.mem a)
    (hc : clearsBoot s.mem a v = false ∨ 0x100 ≤ b.toNat) : read8 (write8 s a v) b = read8 s b := by
  obtain ⟨ha1, ha2, ha3, ha4, ha5, -⟩ := route_range s.mem a
  obtain ⟨hb1, hb2, hb3, hb4, hb5, -⟩ := route_range s.mem b
  have hlog (ev : Event) : read8 (s.log ev) b = read8 s b :=
    read8_congr (s := s) (t := s.log ev) rfl rfl rfl rfl b
  have hplace : route s.mem b = route s.mem a → a.toNat ≠ b.toNat := fun h h' => hp (by simp only [place, h, h'])
  unfold write8
  cases hra : route s.mem a <;> simp only
  case boot => exact hlog _
  case cart => exact hlog _
  case joypad => exact hlog _
  case unmapped => exact hlog _
  case bootLatch =>
    split
    · next hv =>
      have hb : 0x100 ≤ b.toNat := by simpa [clearsBoot, hra, hv] using hc
      have hr : route { s.mem with bootEnabled := false } b = route s.mem b := by
        simp [route, show ¬ b.toNat < 256 by omega]
      exact read8_ext hr rfl rfl rfl rfl (fun _ => rfl) (fun _ => rfl) (fun _ => rfl) (fun _ => rfl)
        (fun _ => by apply lcdRead_congr <;> rfl) (fun _ => by apply ifRead_congr <;> rfl) (fun _ => rfl)
    · rfl
  case irqFlags =>
    have hne : route s.mem b ≠ .irqFlags := fun h =>
      hplace (h.trans hra.symm) (route_irq_unique (h.trans hra.symm) (.inl hra))
    exact read8_ext rfl rfl rfl rfl rfl (fun _ => rfl) (fun _ => rfl) (fun _ => rfl) (fun _ => rfl)
      (fun _ => by apply lcdRead_congr <;> rfl) (fun h => absurd h hne) (fun _ => rfl)
  case irqEnable =>
    have hne : route s.mem b ≠ .irqEnable := fun h =>
      hplace (h.trans hra.symm) (route_irq_unique (h.trans hra.symm) (.inr hra))
    exact read8_ext rfl rfl rfl rfl rfl (fun _ => rfl) (fun _ => rfl) (fun _ => rfl) (fun _ => rfl)
      (fun _ => by apply lcdRead_congr <;> rfl) (fun _ => rfl) (fun h => absurd h hne)
  case lcd =>
    have := ha5 hra
    have hm := lcdWrite_mem s (a.toNat - 0xFF40) v
    refine read8_ext (by rw [hm]) (by rw [hm]) (by rw [hm]) (by rw [hm]) (lcdWrite_params ..) (fun _ => by rw [hm])
      (fun _ => by rw [hm]) (fun _ => by rw [hm]) (fun _ => by rw [hm]) (fun h => lcdRead_lcdWrite_other _ _ ?_)
      (fun _ => ifRead_congr (lcdWrite_irq ..) (lcdWrite_params ..)) (fun _ => by rw [lcdWrite_irq])
    have := hb5 h
    have := hplace (h.trans hra.symm)
    omega
  case vram =>
    have := ha1 hra
    refine read8_ext (route_congr rfl rfl b) rfl rfl rfl rfl (fun h => ?_) (fun _ => rfl) (fun _ => rfl) (fun _ => rfl)
      (fun _ => by apply lcdRead_congr <;> rfl) (fun _ => rfl) (fun _ => rfl)
    have := hb1 h
    have := hplace (h.trans hra.symm)
    exact Memory.read_write_other _ (by omega)
  case hram =>
    have := ha4 hra
    refine read8_ext (route_congr rfl rfl b) rfl rfl rfl rfl (fun _ => rfl) (fun _ => rfl) (fun _ => rfl) (fun h => ?_)
      (fun _ => by apply lcdRead_congr <;> rfl) (fun _ => rfl) (fun _ => rfl)
    have := hb4 h
    have := hplace (h.trans hra.symm)
    exact Memory.read_write_other _ (by omega)
  case wram | wramMirror =>
    refine read8_ext (route_congr rfl rfl b) rfl rfl rfl rfl (fun _ => rfl) (fun h => ?_) (fun h => ?_) (fun _ => rfl)
      (fun _ => by apply lcdRead_congr <;> rfl) (fun _ => rfl) (fun _ => rfl) <;>
    · refine Memory.read_write_other _ fun h' => hp ?_
      simp only [place, hra, h, h']

/-- A byte written to RAM is read at its address and at every other address of the same byte (rules R66 to R68). -/
theorem read8_write8_ram (s : State) (a b : Word) (v : Byte) (hi : s.Inv) (hr : isRam s.mem a = true)
    (hp : place s.mem b = place s.mem a) : read8 (write8 s a v) b = .ok v := by
  have hw := hi.1
  simp only [Stores.wf, Bool.and_eq_true, Memory.wf] at hw
  unfold isRam at hr
  unfold place at hp
  have hroute : route (write8 s a v).mem b = route s.mem b := by
    apply route_congr
    · unfold write8; cases hra : route s.mem a <;> simp only [hra] at hr ⊢ <;> (try cases hr) <;> rfl
    · simp
  unfold read8
  rw [hroute]
  unfold write8
  cases hra : route s.mem a <;> simp only [hra] at hr hp ⊢ <;> try cases hr
  all_goals
    cases hrb : route s.mem b <;> simp only [hrb, Prod.mk.injEq, reduceCtorEq, false_and, true_and] at hp ⊢
  all_goals rw [hp]; apply congrArg
  case vram.intro.vram => exact Memory.read_write_same v hw.1.1.2
  case hram.intro.hram => exact Memory.read_write_same v hw.2
  all_goals exact Memory.read_write_same v hw.1.2

/-! What a write leaves of the routes -/

/-- A write changes no route, but for what turning the boot ROM off uncovers (rules R60, R70). -/
theorem route_write8 (s : State) (a : Word) (v : Byte) (b : Word)
    (h : clearsBoot s.mem a v = false ∨ 0x100 ≤ b.toNat) : route (write8 s a v).mem b = route s.mem b := by
  by_cases hc : clearsBoot s.mem a v = true
  · have hb : 0x100 ≤ b.toNat := by simpa [hc] using h
    simp only [route, write8_cartSize]
    simp [show ¬ b.toNat < 256 by omega]
  · apply route_congr _ (write8_cartSize ..)
    simp only [clearsBoot] at hc
    unfold write8; split <;> (try split) <;> simp_all

/-- A write changes no place, with the same exception. -/
theorem place_write8 (s : State) (a : Word) (v : Byte) (b : Word)
    (h : clearsBoot s.mem a v = false ∨ 0x100 ≤ b.toNat) : place (write8 s a v).mem b = place s.mem b := by
  simp only [place, route_write8 s a v b h]

/-- A write to RAM does not turn the boot ROM off. -/
theorem clearsBoot_of_isRam {m : Stores} {a : Word} (v : Byte) (h : isRam m a = true) : clearsBoot m a v = false := by
  unfold isRam at h; unfold clearsBoot; cases e : route m a <;> simp_all

/-- Whether an address is RAM is its route's. -/
theorem isRam_congr {m m' : Stores} {a : Word} (h : route m' a = route m a) : isRam m' a = isRam m a := by
  simp only [isRam, h]

/-- Two RAM addresses one apart name two bytes. -/
theorem place_succ_ne {m : Stores} {a : Word} (h1 : isRam m a = true) (h2 : isRam m (a + 1) = true) :
    place m (a + 1) ≠ place m a := by
  obtain ⟨r1, r2, r3, r4, -⟩ := route_range m a
  obtain ⟨q1, q2, q3, q4, -⟩ := route_range m (a + 1)
  unfold isRam at h1 h2
  unfold place
  have hm : (a + 1).toNat = (a.toNat + 1) % 65536 := by simp [BitVec.toNat_add]
  cases e1 : route m a <;> simp only [e1] at h1 <;> (try cases h1) <;> cases e2 : route m (a + 1) <;>
    simp only [e2] at h2 <;> (try cases h2) <;>
    simp only [ne_eq, Prod.mk.injEq, reduceCtorEq, false_and, not_false_eq_true, true_and] <;>
    (first | have := r1 e1 | have := r2 e1 | have := r3 e1 | have := r4 e1) <;>
    (first | have := q1 e2 | have := q2 e2 | have := q3 e2 | have := q4 e2) <;> omega

/-! The device registers -/

theorem ifByte_bits : ∀ (x : BitVec 3) (a b c d e : Bool),
    let y := x ++ BitVec.ofBool a ++ BitVec.ofBool b ++ BitVec.ofBool c ++ BitVec.ofBool d ++ BitVec.ofBool e
    BitVec.extractLsb' 5 3 y = x ∧ y.getLsbD 0 = e ∧ y.getLsbD 1 = d ∧ y.getLsbD 2 = c ∧ y.getLsbD 3 = b
      ∧ y.getLsbD 4 = a := by
  decide

/-- IF's bits 7..5 (rule R410). -/
theorem ifRead_unused (s : State) : (ifRead s).extractLsb' 5 3 = s.params.ifUnused := (ifByte_bits ..).1

/-- IF's bit of a source (rule R410). -/
theorem ifRead_bit (s : State) (k : Source) : (ifRead s).getLsbD k.index = decide (0 < s.irq.pending.count k) := by
  obtain ⟨-, h0, h1, h2, h3, h4⟩ := ifByte_bits s.params.ifUnused (decide (0 < s.irq.pending.joypad))
    (decide (0 < s.irq.pending.serial)) (decide (0 < s.irq.pending.timer)) (decide (0 < s.irq.pending.stat))
    (decide (0 < s.irq.pending.vblank))
  cases k
  · exact h0
  · exact h1
  · exact h2
  · exact h3
  · exact h4

/-- A palette entry's index is its two bits (rule R444). -/
theorem paletteShade_index (v : Byte) (i : Nat) : (paletteShade v i).index = v.toNat / 4 ^ i % 4 := by
  unfold paletteShade
  have : v.toNat / 4 ^ i % 4 < 4 := by omega
  generalize v.toNat / 4 ^ i % 4 = n at *
  match n, this with
  | 0, _ => rfl
  | 1, _ => rfl
  | 2, _ => rfl
  | 3, _ => rfl

/-- The sixteen LCD addresses (rules R60, R440). -/
theorem route_lcd {m : Stores} (h : m.cartSize < 0xFF40) {k : Nat} (hk : k < 16) :
    route m (0xFF40 + BitVec.ofNat 16 k) = .lcd ∧ (0xFF40 + BitVec.ofNat 16 k : Word).toNat - 0xFF40 = k := by
  have ht : (0xFF40 + BitVec.ofNat 16 k : Word).toNat = 0xFF40 + k := by simp [BitVec.toNat_add]; omega
  refine ⟨?_, by omega⟩
  unfold route
  rw [ht, if_neg (by omega), if_neg (by omega), if_neg (by omega), if_neg (by omega), if_neg (by omega),
    if_neg (by omega), if_pos (by omega)]

/-- A read of an LCD address is the display's. -/
theorem read8_lcd {s : State} (h : s.mem.cartSize < 0xFF40) {k : Nat} (hk : k < 16) :
    read8 s (0xFF40 + BitVec.ofNat 16 k) = lcdRead s k := by
  obtain ⟨h1, h2⟩ := route_lcd h hk
  unfold read8; rw [h1]; simp only [h2]

/-- A write of an LCD address is the display's. -/
theorem write8_lcd {s : State} (h : s.mem.cartSize < 0xFF40) {k : Nat} (hk : k < 16) (v : Byte) :
    write8 s (0xFF40 + BitVec.ofNat 16 k) v = lcdWrite s k v := by
  obtain ⟨h1, h2⟩ := route_lcd h hk
  unfold write8; rw [h1]; simp only [h2]

end Sys2Proof.Machine
end

