-- ==== Sys2Proof/Laws/Decode.lean ====
section
/-! SUPPORT. The laws of the decoder: bytes that follow, and the shape of an instruction's bytes. -/

namespace Sys2Proof

open Sys2Proof.Machine

/-- What follows an instruction does not change how it is read; STOP's second byte may be what follows. -/
theorem decode_append {bytes r rest : List Byte} {i : Instr} (h : decode bytes = .ok (i, r)) (hs : i ≠ .stop) :
    decode (bytes ++ rest) = .ok (i, r ++ rest) := by
  unfold decode at h
  split at h
  · cases h
  · next op tl =>
    split at h
    · next hop =>
      subst hop
      split at h
      · cases h
      · cases h; rfl
    · next hop =>
      split at h
      · next h10 => cases h; exact absurd rfl hs
      · next h10 =>
        show (if op = 0xCB then _ else if op = 0x10 then _ else _) = _
        rw [if_neg hop, if_neg h10]
        split at h
        · next hl => cases h; rw [hl]; rfl
        · next b1 rr hl => cases h; rw [hl]; rfl
        · next b1 b2 rr hl => cases h; rw [hl]; rfl
        · cases h

/-- The bytes of a well-formed instruction: the prefix and a sub-opcode, or a base opcode and its operand bytes (rule
R100). -/
theorem encode_shape (i : Instr) (h : i.WellFormed) :
    (∃ sub, encode i = [0xCB, sub] ∧ i.opKey = .cb sub)
      ∨ ∃ op tail, encode i = op :: tail ∧ op ≠ 0xCB ∧ i.opKey = .base op ∧ tail.length = opcodeLength op - 1 ∧ tail.length ≤ 2 := by
  cases i
  case illegal op =>
    have : ∀ op : Byte, illegalBytes.contains op = true → op ≠ 0xCB ∧ opcodeLength op = 1 := by decide +kernel
    obtain ⟨h1, h2⟩ := this op h
    exact .inr ⟨op, [], rfl, h1, rfl, by rw [h2]; rfl, by decide⟩
  case prefixCb => cases h
  all_goals first | exact .inl ⟨_, rfl, rfl⟩ | exact .inr ⟨_, _, rfl, by decide, rfl, rfl, by simp⟩

/-- A sub-opcode's instruction has that sub-opcode. -/
theorem cbInstr_opKey : ∀ sub : Byte, (cbInstr sub).opKey = .cb sub := by decide +kernel

end Sys2Proof
end

