-- ==== Sys2Proof/Laws/Dispatch.lean ====
section
/-! SUPPORT. The one place where `exec`'s arms are taken apart: executing an instruction is running its shape at its
opcode, whose length the shape tells. -/

namespace Sys2Proof.Machine

/-- What an instruction does is what its shape does. -/
theorem exec_eq_runForm (i : Instr) (s : State) : exec i s = runForm i.opKey (formOf i) s := by
  cases i <;> rfl

/-- The length of a shape in bytes (rule R100). -/
def Form.length : Form → Nat
  | .ldImm _ _ => 2
  | .ldAFrom (.abs _) => 3
  | .ldAFrom (.high _) => 2
  | .ldATo (.abs _) => 3
  | .ldATo (.high _) => 2
  | .ldPair _ _ => 3
  | .stSp _ => 3
  | .ldHlSp _ => 2
  | .aluImm _ _ => 2
  | .addSp _ => 2
  | .cb _ => 2
  | .prefixCb _ => 2
  | .jp _ => 3
  | .jpIf _ _ => 3
  | .jr _ => 2
  | .jrIf _ _ => 2
  | .call _ => 3
  | .callIf _ _ => 3
  | .stop => 2
  | _ => 1

/-- PC moves past an instruction by the length its shape tells. -/
theorem opKey_length (i : Instr) (h : ∀ op, formOf i ≠ .illegal op) : i.opKey.length = (formOf i).length := by
  cases i
  case illegal op => exact absurd rfl (h op)
  all_goals rfl

/-- There is no LD (HL),(HL): its opcode is HALT's (rule R106). -/
theorem formOf_ne_ld_atHL (i : Instr) : formOf i ≠ .ld .atHL .atHL := by
  intro h
  cases i <;> cases h

/-- `exec_eq_runForm` for a known shape. -/
theorem exec_of_form {i : Instr} {f : Form} (hf : formOf i = f) (s : State) : exec i s = runForm i.opKey f s := by
  rw [exec_eq_runForm, hf]

/-- `opKey_length` for a known shape. -/
theorem length_of_form {i : Instr} {f : Form} (hf : formOf i = f) (h : ∀ op, f ≠ .illegal op) :
    i.opKey.length = f.length := by
  rw [opKey_length i (by rw [hf]; exact h), hf]

end Sys2Proof.Machine
end

