-- ==== Sys2Proof/Laws/Display.lean ====
section
/-! SUPPORT. What drawing leaves at one pixel of the framebuffer (rules R453 to R455), said once per drawing function: the
shade drawn where the pixel is hit and its colour index is not 0, and the shade before otherwise. -/

namespace Sys2Proof.Machine

/-- A fold that acts at one element of a range, and nowhere else, acts once. -/
theorem foldl_range_single {β : Type} (f : β → β) (n c : Nat) (b : β) :
    (List.range n).foldl (fun acc k => if k = c then f acc else acc) b = if c < n then f b else b := by
  induction n with
  | zero => rfl
  | succ n ih =>
    rw [List.range_succ, List.foldl_append, ih]
    simp only [List.foldl_cons, List.foldl_nil]
    by_cases h : n = c
    · subst h; simp
    · rw [if_neg h]; split <;> split <;> first | rfl | omega

/-- A fold in which the last element that counts decides is that element's value. -/
theorem foldl_last {α β : Type} (p : α → Bool) (f : α → β) (l : List α) (b : β) :
    l.foldl (fun acc x => if p x then f x else acc) b = (l.filter p).getLast?.elim b f := by
  induction l generalizing b with
  | nil => rfl
  | cons x l ih =>
    rw [List.foldl_cons, ih, List.filter_cons]
    cases hp : p x with
    | false => rfl
    | true =>
      simp only [if_true]
      rw [List.getLast?_cons]
      cases h : (l.filter p).getLast? <;> simp

/-- A fold that acts only at the elements that count is the fold over those. -/
theorem foldl_where {α β : Type} (p : α → Prop) [DecidablePred p] (f : β → α → β) (l : List α) (b : β) :
    l.foldl (fun acc x => if p x then f acc x else acc) b = (l.filter fun x => decide (p x)).foldl f b := by
  induction l generalizing b with
  | nil => rfl
  | cons x l ih => rw [List.foldl_cons, ih, List.filter_cons]; by_cases h : p x <;> simp [h]

/-- Folding drawing steps and reading one cell is folding what each step does to that cell. -/
theorem read_foldl {γ : Type} {size n : Nat} (f : List (Nat × Shade) → γ → List (Nat × Shade)) (g : Shade → γ → Shade)
    (l : List γ) (hwf : ∀ fb c, Memory.wf Shade.white size fb = true → Memory.wf Shade.white size (f fb c) = true)
    (hf : ∀ fb, ∀ c ∈ l, Memory.wf Shade.white size fb = true →
      Memory.read Shade.white (f fb c) n = g (Memory.read Shade.white fb n) c) (fb : List (Nat × Shade))
    (h : Memory.wf Shade.white size fb = true) :
    Memory.read Shade.white (l.foldl f fb) n = l.foldl g (Memory.read Shade.white fb n) := by
  induction l generalizing fb with
  | nil => rfl
  | cons c l ih =>
    rw [List.foldl_cons, List.foldl_cons, ih (fun fb x hx => hf fb x (List.mem_cons_of_mem c hx)) _ (hwf fb c h),
      hf fb c List.mem_cons_self h]

/-- The canonical form of a framebuffer. -/
abbrev FbWf (fb : List (Nat × Shade)) : Prop := Memory.wf Shade.white (160 * 144) fb = true

theorem paintPixel_wf (l : Lcd) (i j py : Nat) (lo hi : Byte) (fb : List (Nat × Shade)) (px : Nat) (h : FbWf fb) :
    FbWf (paintPixel l i j py lo hi fb px) := by
  unfold paintPixel
  simp only
  split
  · exact h
  · exact Memory.wf_write _ h (by unfold Lcd.pixelRow Lcd.pixelColumn; omega)

theorem paintTileRow_wf (vram : List Host.Cell) (l : Lcd) (i j t : Nat) (fb : List (Nat × Shade)) (py : Nat)
    (h : FbWf fb) : FbWf (paintTileRow vram l i j t fb py) :=
  foldl_keeps FbWf _ _ _ h fun fb px h => paintPixel_wf l i j py _ _ fb px h

theorem paintTile_wf (vram : List Host.Cell) (l : Lcd) (i : Nat) (fb : List (Nat × Shade)) (j : Nat) (h : FbWf fb) :
    FbWf (paintTile vram l i fb j) :=
  foldl_keeps FbWf _ _ _ h fun fb py h => paintTileRow_wf vram l i j _ fb py h

theorem paintTiles_wf (vram : List Host.Cell) (l : Lcd) (margin : Nat) (fb : List (Nat × Shade)) (i : Nat) (h : FbWf fb) :
    FbWf (paintTiles vram l margin fb i) :=
  foldl_keeps FbWf _ _ _ h fun fb j h => paintTile_wf vram l i fb j h

/-- The cell of the framebuffer that pixel (px, py) of the screen's tile (i, j) has. -/
def Lcd.cell (l : Lcd) (i j px py : Nat) : Nat := 160 * l.pixelRow i py + l.pixelColumn j px

/-- Two tile positions share a pixel exactly when they are the same modulo the screen's 18 rows and 20 columns and the
pixel is the same in both. -/
theorem Lcd.cell_eq_iff (l : Lcd) {i j px py : Nat} (hi : i < 18) (hj : j < 20) (hpx : px < 8) (hpy : py < 8)
    (i' j' : Nat) {px' py' : Nat} (hpx' : px' < 8) (hpy' : py' < 8) :
    l.cell i' j' px' py' = l.cell i j px py ↔ i' % 18 = i ∧ j' % 20 = j ∧ py' = py ∧ px' = px := by
  have row : l.pixelRow i' py' = l.pixelRow i py ↔ i' % 18 = i ∧ py' = py := by
    unfold Lcd.pixelRow; omega
  have col : l.pixelColumn j' px' = l.pixelColumn j px ↔ j' % 20 = j ∧ px' = px := by
    unfold Lcd.pixelColumn; omega
  have h1 : l.pixelColumn j' px' < 160 := Nat.mod_lt _ (by decide)
  have h2 : l.pixelColumn j px < 160 := Nat.mod_lt _ (by decide)
  have split : l.cell i' j' px' py' = l.cell i j px py ↔
      l.pixelRow i' py' = l.pixelRow i py ∧ l.pixelColumn j' px' = l.pixelColumn j px := by
    unfold Lcd.cell; omega
  rw [split, row, col]
  constructor
  · rintro ⟨⟨h1, h2⟩, h3, h4⟩; exact ⟨h1, h3, h2, h4⟩
  · rintro ⟨h1, h2, h3, h4⟩; exact ⟨⟨h1, h3⟩, h2, h4⟩

/-- One pixel drawn, seen at a cell. -/
theorem read_paintPixel (l : Lcd) (i j py : Nat) (lo hi : Byte) (fb : List (Nat × Shade)) (px n : Nat) (h : FbWf fb) :
    Memory.read Shade.white (paintPixel l i j py lo hi fb px) n =
      if l.cell i j px py = n ∧ pixelIndex lo hi px ≠ 0 then l.bgTable.get (pixelIndex lo hi px)
      else Memory.read Shade.white fb n := by
  unfold paintPixel Lcd.cell
  simp only
  split
  · next h0 => rw [if_neg (fun hh => hh.2 h0)]
  · next h0 =>
    by_cases hn : 160 * l.pixelRow i py + l.pixelColumn j px = n
    · subst hn; rw [if_pos ⟨rfl, h0⟩]; exact Memory.read_write_same _ h
    · rw [if_neg (fun hh => hn hh.1)]; exact Memory.read_write_other _ (fun e => hn e.symm)

/-- The index of the tile that a map place names. -/
def tileAt (vram : List Host.Cell) (l : Lcd) (i j : Nat) : Nat :=
  (readByte vram (l.mapOffset + 32 * ((l.scy.toNat / 8 + i) % 32) + (l.scx.toNat / 8 + j) % 32)).toNat

/-- The colour index of a pixel of the tile that a map place names. -/
def indexAt (vram : List Host.Cell) (l : Lcd) (i j px py : Nat) : Nat :=
  pixelIndex (readByte vram (16 * tileAt vram l i j + 2 * py)) (readByte vram (16 * tileAt vram l i j + 2 * py + 1)) px

/-- The colour index in the statements' arithmetic is the renderer's. -/
theorem tileIndex_eq_indexAt (s : State) (i j px py : Nat) :
    tileIndex s i j px py = indexAt s.mem.vram s.lcd i j px py := by
  have bit (b : Byte) (k : Nat) : (b.getLsbD k).toNat = b.toNat / 2 ^ k % 2 := by rw [BitVec.getLsbD, Nat.toNat_testBit]
  unfold tileIndex indexAt pixelIndex tileAt Lcd.mapOffset Lcd.flag
  simp only [bit]

/-- What drawing the tile at (i', j') does to the shade of pixel (px, py) of the screen's tile (i, j): it lies there and its
index is not 0, or it leaves the shade. -/
def drawnShade (vram : List Host.Cell) (l : Lcd) (i j px py i' j' : Nat) (before : Shade) : Shade :=
  if (i' % 18 = i ∧ j' % 20 = j) ∧ indexAt vram l i' j' px py ≠ 0 then l.bgTable.get (indexAt vram l i' j' px py) else before

/-- One row of a tile drawn, seen at a pixel. -/
theorem read_paintTileRow (vram : List Host.Cell) (l : Lcd) {i j px py : Nat} (hi : i < 18) (hj : j < 20) (hpx : px < 8)
    (hpy : py < 8) (i' j' : Nat) (fb : List (Nat × Shade)) (h : FbWf fb) {py' : Nat} (hpy' : py' < 8) :
    Memory.read Shade.white (paintTileRow vram l i' j' (tileAt vram l i' j') fb py') (l.cell i j px py) =
      if py' = py then drawnShade vram l i j px py i' j' (Memory.read Shade.white fb (l.cell i j px py))
      else Memory.read Shade.white fb (l.cell i j px py) := by
  unfold paintTileRow
  simp only
  rw [read_foldl _ (fun acc px' => if px' = px then
      (if py' = py then drawnShade vram l i j px py i' j' acc else acc) else acc) _
    (fun fb c h => paintPixel_wf l i' j' py' _ _ fb c h) ?_ _ h, foldl_range_single, if_pos hpx]
  intro fb px' hpx' hfb
  rw [read_paintPixel _ _ _ _ _ _ _ _ _ hfb]
  simp only [l.cell_eq_iff hi hj hpx hpy i' j' (List.mem_range.1 hpx') hpy']
  by_cases hx : px' = px
  · subst hx
    by_cases hy : py' = py
    · subst hy; simp [drawnShade, indexAt, and_assoc]
    · simp [hy]
  · simp [hx]

/-- One tile drawn, seen at a pixel. -/
theorem read_paintTile (vram : List Host.Cell) (l : Lcd) {i j px py : Nat} (hi : i < 18) (hj : j < 20) (hpx : px < 8)
    (hpy : py < 8) (i' j' : Nat) (fb : List (Nat × Shade)) (h : FbWf fb) :
    Memory.read Shade.white (paintTile vram l i' fb j') (l.cell i j px py) =
      drawnShade vram l i j px py i' j' (Memory.read Shade.white fb (l.cell i j px py)) := by
  show Memory.read Shade.white ((List.range 8).foldl (paintTileRow vram l i' j' (tileAt vram l i' j')) fb) _ = _
  rw [read_foldl _ (fun acc py' => if py' = py then drawnShade vram l i j px py i' j' acc else acc) _
    (fun fb c h => paintTileRow_wf vram l i' j' _ fb c h)
    (fun fb py' hpy' hfb => read_paintTileRow vram l hi hj hpx hpy i' j' fb hfb (List.mem_range.1 hpy')) _ h,
    foldl_range_single, if_pos hpy]

end Sys2Proof.Machine
end

