-- ==== Sys2Proof/Laws/Ops.lean ====
section
/-! SUPPORT. The laws of the shared operations: what each can do, said once. -/

namespace Sys2Proof.Machine

/-! Reads and writes of operands -/

/-- A register operand is read without touching memory. -/
theorem get8_of_getSel {s : State} {r : Sel} {v : Byte} (h : s.regs.getSel r = some v) : get8 s r = .ok v := by
  cases r <;> simp_all [Regs.getSel, get8]

/-- A register operand is written in the register file alone. -/
theorem set8_reg (s : State) {r : Sel} (v : Byte) (h : r ≠ .atHL) : set8 s r v = s.setRegs (s.regs.setSel r v) := by
  cases r <;> first | rfl | exact absurd rfl h

/-- A register selector that has a value is no memory operand. -/
theorem getSel_ne_atHL {r : Regs} {sel : Sel} {v : Byte} (h : r.getSel sel = some v) : sel ≠ .atHL := by
  rintro rfl
  cases h

/-- A pair reads what it was set to. -/
@[simp] theorem Regs.pair_setPair (r : Regs) (p : Pair) (w : Word) : (r.setPair p w).pair p = w := by
  cases p <;> simp [Regs.setPair, Regs.pair, Regs.bc, Regs.de, Regs.hl]

/-- Setting a pair leaves the others. -/
theorem Regs.pair_setPair_other (r : Regs) {p q : Pair} (w : Word) (h : q ≠ p) :
    (r.setPair p w).pair q = r.pair q := by
  cases p <;> cases q <;> first | rfl | exact absurd rfl h

/-! Ends of an instruction -/

@[simp] theorem attempt_ok {α : Type} (s : State) (v : α) (k : α → Result) : attempt s (.ok v) k = k v := rfl

@[simp] theorem attempt_error {α : Type} (s : State) (e : FatalError) (k : α → Result) :
    attempt s (.error e) k = .next (s.raise e) := rfl

/-- What ending an instruction writes: PC and the cycles. -/
theorem advance_eq (s : State) (k : OpKey) (taken : Bool) :
    advance s k taken = { s with
      regs := { s.regs with pc := s.regs.pc + BitVec.ofNat 16 k.length }
      cycles := s.cycles + cyclesOf s.params k taken } := rfl

/-- A state that agrees outside the register file, the cycles and the draws reads the same everywhere. -/
theorem sameOutside_of {s t : State} (hi : t.irq = s.irq) (hm : t.mem = s.mem) (hl : t.lcd = s.lcd)
    (he : t.events = s.events) (hh : t.halted = s.halted) (hf : t.fatal = s.fatal) (hp : t.params = s.params) :
    SameOutside s t :=
  ⟨hi, hm, hl, he, hh, hf, hp, read8_congr hm hi hl hp⟩

/-- Ending an instruction that only changed registers. -/
theorem ran_advance {i : Instr} {s u : State} (hi : u.irq = s.irq) (hm : u.mem = s.mem) (hl : u.lcd = s.lcd)
    (he : u.events = s.events) (hh : u.halted = s.halted) (hf : u.fatal = s.fatal) (hp : u.params = s.params)
    (hc : u.cycles = s.cycles) : RanOnRegisters i s (advance u i.opKey true) :=
  ⟨sameOutside_of hi hm hl he hh hf hp, by simp [advance_eq, hc, hp]⟩

/-! The stack -/

/-- A push: the bus writes at SP - 2, and SP two lower (rule R105). -/
theorem push16_eq (s : State) (w : Word) :
    push16 s w = (write16 s (s.regs.sp - 2) w).setRegs { s.regs with sp := s.regs.sp - 2 } := by
  rw [push16, State.setSp, write16_setRegs]

/-- The two bytes of a push. -/
theorem pushed_eq (s : State) (w : Word) : pushed s w = write16 s (s.regs.sp - 2) w := by
  rw [pushed, write16, show s.regs.sp - 2 + 1 = s.regs.sp - 1 from by bv_omega]

/-- A pop of two readable bytes: the word, and SP two higher (rule R105). -/
theorem pop16_ok {s : State} {lo hi : Byte} (k : State → Word → Result) (hl : read8 s s.regs.sp = .ok lo)
    (hh : read8 s (s.regs.sp + 1) = .ok hi) : pop16 s k = k (s.setSp (s.regs.sp + 2)) (joinBytes hi lo) := by
  simp only [pop16, read16, hl, hh, attempt]

/-- Two next states that one run answers are one. -/
theorem next_inj {s t : State} (h : (Host.Outcome.next s : Result) = .next t) : s = t := by injection h

@[simp] theorem read8_advance (s : State) (k : OpKey) (taken : Bool) (a : Word) :
    read8 (advance s k taken) a = read8 s a :=
  read8_congr (s := s) (t := advance s k taken) rfl rfl rfl rfl a

@[simp] theorem read8_setRegs (s : State) (r : Regs) (a : Word) : read8 (s.setRegs r) a = read8 s a :=
  read8_congr (s := s) (t := s.setRegs r) rfl rfl rfl rfl a

@[simp] theorem read8_addCycles (s : State) (n : Nat) (a : Word) : read8 (s.addCycles n) a = read8 s a :=
  read8_congr (s := s) (t := s.addCycles n) rfl rfl rfl rfl a

/-- Ending an instruction whose state differs from `s` in registers and draws alone. -/
theorem ran_of_sameBus {i : Instr} {s u : State} (hb : SameBus s u) (hc : u.cycles = s.cycles) :
    RanOnRegisters i s (advance u i.opKey true) :=
  ran_advance hb.2.1 hb.1 hb.2.2.1 hb.2.2.2.1 hb.2.2.2.2.1 hb.2.2.2.2.2.1 hb.2.2.2.2.2.2 hc

/-- A stack pair reads what a pop put in it; F's low nibble is 0 (rules R24, R236). -/
theorem Regs.stackPair_set (r : Regs) (p : StackPair) (lo hi : Byte) :
    (r.setStackPair p (joinBytes hi lo)).stackPair p
      = if p = .af then joinBytes hi (lo &&& 0xF0) else joinBytes hi lo := by
  cases p <;>
    simp [Regs.setStackPair, Regs.stackPair, Regs.bc, Regs.de, Regs.hl, Regs.af, Regs.f, Flags.toByte_ofByte]

end Sys2Proof.Machine
end

