-- ==== Sys2Proof/Laws/Flags.lean ====
section
/-! SUPPORT. The laws of the flag computations: what each operation of Flags.lean leaves, said once. -/

namespace Sys2Proof.Machine

/-! H and N -/

/-- `HN` writes no register but F. -/
theorem setHN_regs (u : State) (h n : Bool) : ∃ f, (u.setHN h n).regs = { u.regs with flags := f } := by
  unfold State.setHN; split <;> exact ⟨_, rfl⟩

/-- `HN` leaves SP. -/
@[simp] theorem setHN_sp (u : State) (h n : Bool) : (u.setHN h n).regs.sp = u.regs.sp := by
  obtain ⟨f, hf⟩ := setHN_regs u h n; rw [hf]

/-- What `HN` leaves in H and N, from what an instruction found there (rule R27). -/
theorem hnWritten_setHN {p : Params} {before : Flags} {u : State} {h n : Bool} (hp : u.params = p)
    (hh : u.regs.flags.h = before.h) (hn : u.regs.flags.n = before.n) :
    HNWritten p before (u.setHN h n).regs.flags h n := by
  subst hp
  unfold HNWritten State.setHN
  cases u.params.flagModel <;> simp [Regs.setH, Regs.setN, hh, hn]

/-! The `alu` operations -/

/-- All that an `alu` operation does: A, the flags, and nothing else. -/
theorem applyAlu_spec (s : State) (op : Alu) (v : Byte) :
    SameBus s (applyAlu s op v) ∧ (applyAlu s op v).cycles = s.cycles
      ∧ (applyAlu s op v).regs.a = (if op.writesA then (op.eval s.regs.a v s.regs.flags.c).res else s.regs.a)
      ∧ FlagsWritten s.params s.regs.flags (applyAlu s op v).regs.flags
          (decide ((op.eval s.regs.a v s.regs.flags.c).res = 0)) (op.eval s.regs.a v s.regs.flags.c).c
          (op.eval s.regs.a v s.regs.flags.c).h (op.eval s.regs.a v s.regs.flags.c).n
      ∧ (applyAlu s op v).regs
          = { s.regs with a := (applyAlu s op v).regs.a, flags := (applyAlu s op v).regs.flags } := by
  have ht : ∃ a', a' = (if op.writesA then (op.eval s.regs.a v s.regs.flags.c).res else s.regs.a)
      ∧ applyAlu s op v = (((s.setRegs { s.regs with a := a' }).setZ
          (decide ((op.eval s.regs.a v s.regs.flags.c).res = 0))).setC (op.eval s.regs.a v s.regs.flags.c).c).setHN
          (op.eval s.regs.a v s.regs.flags.c).h (op.eval s.regs.a v s.regs.flags.c).n := by
    unfold applyAlu
    simp only
    split
    · exact ⟨_, rfl, rfl⟩
    · exact ⟨_, rfl, rfl⟩
  obtain ⟨a', ha, ht⟩ := ht
  rw [ht]
  obtain ⟨f, hf⟩ := setHN_regs (((s.setRegs { s.regs with a := a' }).setZ
    (decide ((op.eval s.regs.a v s.regs.flags.c).res = 0))).setC (op.eval s.regs.a v s.regs.flags.c).c)
    (op.eval s.regs.a v s.regs.flags.c).h (op.eval s.regs.a v s.regs.flags.c).n
  refine ⟨by simp [SameBus], by simp, ?_, ⟨by simp, by simp, hnWritten_setHN (by simp) (by simp) (by simp)⟩, ?_⟩
  · rw [hf]; simp [ha]
  · rw [hf]; rfl

/-! Rotates and bit masks -/

/-- The bit-level rotates are the arithmetic ones. -/
theorem CbRot.eval_eq_rotated : ∀ (op : CbRot) (c : Bool) (v : Byte),
    (op.eval v c).res = (rotated op v c).1 ∧ (op.eval v c).out = (rotated op v c).2 := by
  intro op c
  cases op <;> cases c <;> decide

/-- An accumulator rotate moves the bits of its CB rotate. -/
theorem AccRot.eval_asCb (op : AccRot) (v : Byte) (c : Bool) : op.eval v c = op.asCb.eval v c := by
  cases op <;> rfl

/-- `1 << b` has bit `b` alone. -/
theorem bitMask_getLsbD (b : Fin 8) (k : Nat) : (bitMask b).getLsbD k = decide (k = b.val) := by
  by_cases hk : k < 8
  · have : ∀ b k : Fin 8, (bitMask b).getLsbD k.val = decide (k.val = b.val) := by decide
    exact this b ⟨k, hk⟩
  · rw [BitVec.getLsbD_of_ge _ _ (by omega)]; have := b.isLt; simp; omega

/-- RES clears bit `b` alone. -/
theorem res_getLsbD (v : Byte) (b : Fin 8) (k : Nat) :
    (v &&& ~~~bitMask b).getLsbD k = (v.getLsbD k && decide (k ≠ b.val)) := by
  by_cases hk : k < 8
  · simp [-BitVec.getLsbD_eq_getElem, BitVec.getLsbD_and, BitVec.getLsbD_not, bitMask_getLsbD, hk]
  · simp [BitVec.getLsbD_of_ge v k (by omega)]

/-- SET sets bit `b` alone. -/
theorem set_getLsbD (v : Byte) (b : Fin 8) (k : Nat) :
    (v ||| bitMask b).getLsbD k = (v.getLsbD k || decide (k = b.val)) := by
  rw [BitVec.getLsbD_or, bitMask_getLsbD]

/-! DAA -/

/-- The adjustment in numbers (rule R272). -/
theorem daaAdjust_toNat : ∀ (n h c : Bool) (a : Byte),
    (n = false →
        (daaAdjust a n h c).1.toNat
          = (a.toNat + 0x60 * (c || decide (0x99 < a.toNat)).toNat + 6 * (h || decide (9 < a.toNat % 16)).toNat) % 256
        ∧ (daaAdjust a n h c).2 = (c || decide (0x99 < a.toNat)))
      ∧ (n = true →
        ((daaAdjust a n h c).1.toNat : Int) = ((a.toNat : Int) - 0x60 * c.toNat - 0x06 * h.toNat) % 256
        ∧ (daaAdjust a n h c).2 = c) := by
  intro n h c
  cases n <;> cases h <;> cases c <;> decide

end Sys2Proof.Machine
end

