-- ==== Sys2Proof/Laws/Exec.lean ====
section
/-! SUPPORT. What executing an instruction can do, said once: it raises a fatal error and leaves the state, or it completes
after at most two byte writes. Every whole-machine law about instructions goes through `exec_outcome`. -/

namespace Sys2Proof.Machine

/-- What an instruction of shape `f` that completes from `s` leaves in `t`, `u` being `s` after the instruction's bus
writes: at most one byte or one word. -/
structure Ran (f : Form) (s u t : State) : Prop where
  path : u = s ∨ (∃ a v, u = write8 s a v) ∨ ∃ a w, u = write16 s a w
  mem : t.mem = u.mem
  lcd : t.lcd = u.lcd
  pending : t.irq.pending = u.irq.pending
  ie : t.irq.ie = u.irq.ie
  imePrev : t.irq.imePrev = s.irq.imePrev
  events : t.events = u.events
  fatal : t.fatal = s.fatal
  params : t.params = s.params
  cycles : s.cycles ≤ t.cycles
  ime : f ≠ .ei → f ≠ .di → f ≠ .reti → t.irq.ime = s.irq.ime
  halted : f ≠ .halt → t.halted = s.halted
  sp : writesSp f = false → t.regs.sp = s.regs.sp

/-- An instruction's outcome: it raised a fatal error and left the state, or it completed (rules R402, R405). -/
abbrev Completes (f : Form) (s : State) (r : Result) : Prop :=
  ∃ t, r = .next t ∧ ((∃ e, t = s.raise e) ∨ ∃ u, Ran f s u t)

/-- A read that faults ends the instruction; otherwise it goes on. -/
theorem outcome_attempt {f : Form} {s : State} {α : Type} {r : Except FatalError α} {k : α → Result} (h : ∀ v, Completes f s (k v)) :
    Completes f s (attempt s r k) := by
  cases r with
  | error e => exact ⟨_, rfl, .inl ⟨e, rfl⟩⟩
  | ok v => exact h v

/-- An instruction that touches registers alone. -/
theorem outcome_regs (f : Form) (s u : State) (k : OpKey) (b : Bool)
    (hb : SameBus s u) (hc : u.cycles = s.cycles)
    (hs : writesSp f = false → u.regs.sp = s.regs.sp) :
    Completes f s (.next (advance u k b)) := by
  obtain ⟨h1, h2, h3, h4, h5, h6, h7⟩ := hb
  refine ⟨_, rfl, .inr ⟨s, .inl rfl, h1, h3, congrArg _ h2, congrArg _ h2, congrArg _ h2, h4, h6, h7, ?_, fun _ _ _ => congrArg _ h2, fun _ => h5, hs⟩⟩
  rw [advance_eq, hc]; exact Nat.le_add_right ..

/-- A jump. -/
theorem outcome_jump (f : Form) (s u : State) (k : OpKey) (w : Word)
    (hb : SameBus s u) (hc : u.cycles = s.cycles)
    (hs : writesSp f = false → u.regs.sp = s.regs.sp) :
    Completes f s (jump u k w) := by
  obtain ⟨h1, h2, h3, h4, h5, h6, h7⟩ := hb
  refine ⟨_, rfl, .inr ⟨s, .inl rfl, h1, h3, congrArg _ h2, congrArg _ h2, congrArg _ h2, h4, h6, h7, ?_, fun _ _ _ => congrArg _ h2, fun _ => h5, hs⟩⟩
  simp [hc]

/-- An instruction that stores a byte. -/
theorem outcome_write8 (f : Form) (s u : State) (a : Word) (v : Byte) (k : OpKey) (b : Bool)
    (hb : SameBus (write8 s a v) u) (hc : u.cycles = s.cycles)
    (hs : writesSp f = false → u.regs.sp = s.regs.sp) :
    Completes f s (.next (advance u k b)) := by
  obtain ⟨h1, h2, h3, h4, h5, h6, h7⟩ := hb
  refine ⟨_, rfl, .inr ⟨write8 s a v, .inr (.inl ⟨a, v, rfl⟩), h1, h3, congrArg _ h2, congrArg _ h2, (congrArg _ h2).trans (write8_imePrev ..), h4, h6.trans (write8_fatal ..), h7.trans (write8_params ..), ?_, fun _ _ _ => (congrArg _ h2).trans (write8_ime ..), fun _ => h5.trans (write8_halted ..), hs⟩⟩
  rw [advance_eq, hc]; exact Nat.le_add_right ..

/-- An instruction that stores a word. -/
theorem outcome_write16 (f : Form) (s u : State) (a : Word) (w : Word)
    (hb : SameBus (write16 s a w) u) (hc : s.cycles ≤ u.cycles)
    (hs : writesSp f = false → u.regs.sp = s.regs.sp) :
    Completes f s (.next u) := by
  obtain ⟨h1, h2, h3, h4, h5, h6, h7⟩ := hb
  refine ⟨_, rfl, .inr ⟨write16 s a w, .inr (.inr ⟨a, w, rfl⟩), h1, h3, congrArg _ h2, congrArg _ h2, (congrArg _ h2).trans (write16_imePrev ..), h4, h6.trans (write16_fatal ..), h7.trans (write16_params ..), hc, fun _ _ _ => (congrArg _ h2).trans (write16_ime ..), fun _ => h5.trans (write16_halted ..), hs⟩⟩

/-- An instruction that pops. -/
theorem outcome_pop {f : Form} {s : State} {k : State → Word → Result} (h : ∀ w, Completes f s (k (s.setSp (s.regs.sp + 2)) w)) :
    Completes f s (pop16 s k) := outcome_attempt h

/-- A selector is not SP. -/
theorem setSel_sp (r : Regs) (x : Sel) (v : Byte) : (r.setSel x v).sp = r.sp := by cases x <;> rfl

/-- An instruction that writes a selector, `g` being its flags. -/
theorem outcome_set8 (f : Form) (s : State) (r : Sel) (v : Byte) (g : State → State) (k : OpKey) (b : Bool) (hg : ∀ u, SameBus u (g u) ∧ (g u).cycles = u.cycles ∧ (g u).regs.sp = u.regs.sp) : Completes f s (.next (advance (g (set8 s r v)) k b)) := by
  obtain ⟨h1, h2, h3⟩ := hg (set8 s r v)
  by_cases hr : r = .atHL
  · subst hr
    exact outcome_write8 f s _ _ v k b h1 (by rw [h2]; exact write8_cycles ..) (fun _ => by rw [h3]; exact congrArg _ (write8_regs ..))
  · rw [set8_reg s v hr] at *
    exact outcome_regs f s _ k b h1 h2 (fun _ => by rw [h3]; exact setSel_sp ..)

/-- A CB operation. -/
theorem outcome_cb (f : Form) (k : OpKey) (c : CbOp) (s : State) : Completes f s (runCb k c s) := by
  cases c with
  | rot op r => exact outcome_attempt fun v => outcome_set8 f s r _ (fun u => ((u.setZ _).setC _).setHN false false) k true (fun u => ⟨by simp [SameBus], by simp, by simp⟩)
  | bit b r => exact outcome_attempt fun v => outcome_regs f s _ k true (by simp [SameBus]) (by simp) (fun _ => by simp)
  | res b r => exact outcome_attempt fun v => outcome_set8 f s r _ id k true (fun u => ⟨by simp [SameBus], rfl, rfl⟩)
  | set b r => exact outcome_attempt fun v => outcome_set8 f s r _ id k true (fun u => ⟨by simp [SameBus], rfl, rfl⟩)

/-- An instruction that pushes. -/
theorem outcome_push (f : Form) (s : State) (w : Word) (t : State) (hf : writesSp f = true) (ht : SameBus (push16 s w) t) (hc : s.cycles ≤ t.cycles) : Completes f s (.next t) := by
  rw [push16_eq] at ht
  exact outcome_write16 f s t _ w ht hc (fun h => by rw [hf] at h; cases h)

/-- HL's step leaves SP. -/
theorem stepPtr_sp (r : Regs) (p : Ptr) : (r.stepPtr p).sp = r.sp := by cases p <;> rfl

/-- Every shape's outcome. -/
theorem runForm_outcome (k : OpKey) (f : Form) (s : State) : Completes f s (runForm k f s) := by
  cases f
  case ld dst src => exact outcome_attempt fun v => outcome_set8 _ s dst _ id k true (fun u => ⟨by simp [SameBus], rfl, rfl⟩)
  case ldImm dst n => exact outcome_set8 _ s dst _ id k true (fun u => ⟨by simp [SameBus], rfl, rfl⟩)
  case ldAInd p => exact outcome_attempt fun v => outcome_regs _ s _ k true (by simp [SameBus]) (by simp) (fun _ => by simp [stepPtr_sp])
  case ldIndA p => exact outcome_write8 _ s _ (s.regs.ptr p) s.regs.a k true ⟨by simp, by simp, by simp, by simp, by simp, by simp, by simp⟩ (by simp) (fun _ => by simp [stepPtr_sp])
  case ldAFrom w => exact outcome_attempt fun v => outcome_regs _ s _ k true (by simp [SameBus]) (by simp) (fun _ => by simp)
  case ldATo w => exact outcome_write8 _ s _ _ _ k true ⟨rfl, rfl, rfl, rfl, rfl, rfl, rfl⟩ (by simp) (fun _ => by simp)
  case ldPair p w => exact outcome_regs _ s _ k true (by simp [SameBus]) (by simp) (fun h => by cases p <;> first | rfl | cases h)
  case stSp nn => exact outcome_write16 _ s _ _ _ ⟨rfl, rfl, rfl, rfl, rfl, rfl, rfl⟩ (by simp [advance_eq]) (fun _ => by simp [advance_eq])
  case ldSpHl => exact outcome_regs _ s _ k true (by simp [SameBus]) (by simp) (fun h => by cases h)
  case ldHlSp e => exact outcome_regs _ s _ k true (by simp [SameBus]) (by simp) (fun h => by simp [Regs.setPair])
  case push p => exact outcome_push _ s _ _ rfl ⟨rfl, rfl, rfl, rfl, rfl, rfl, rfl⟩ (by simp [advance_eq, push16_eq])
  case pop p =>
    show Completes (.pop p) s (popPair ..)
    unfold popPair
    exact outcome_pop fun w => outcome_regs (.pop p) s _ k true (by simp [SameBus]) (by simp) (fun h => by cases h)
  case alu op src =>
    refine outcome_attempt fun v => ?_
    obtain ⟨h1, h2, h3, h4, h5⟩ := applyAlu_spec s op v
    exact outcome_regs _ s _ k true h1 h2 (fun _ => by rw [h5])
  case aluImm op v =>
    obtain ⟨h1, h2, h3, h4, h5⟩ := applyAlu_spec s op v
    exact outcome_regs _ s _ k true h1 h2 (fun _ => by rw [h5])
  case inc r => exact outcome_attempt fun v => outcome_set8 _ s r _ (fun u => incFlags u v) k true (fun u => ⟨by simp [SameBus, incFlags], by simp [incFlags], by simp [incFlags]⟩)
  case dec r => exact outcome_attempt fun v => outcome_set8 _ s r _ (fun u => decFlags u v) k true (fun u => ⟨by simp [SameBus, decFlags], by simp [decFlags], by simp [decFlags]⟩)
  case daa =>
    show Completes _ s (adjustA k s)
    unfold adjustA
    split
    · exact outcome_regs _ s _ k true (by simp [SameBus]) (by simp) (fun _ => rfl)
    · exact ⟨_, rfl, .inl ⟨_, rfl⟩⟩
  case cpl => exact outcome_regs _ s _ k true (by simp [SameBus]) (by simp) (fun h => by simp)
  case scf => exact outcome_regs _ s _ k true (by simp [SameBus]) (by simp) (fun h => by simp)
  case ccf => exact outcome_regs _ s _ k true (by simp [SameBus]) (by simp) (fun h => by simp)
  case addHl => exact outcome_regs _ s _ k true (by simp [SameBus]) (by simp) (fun h => by simp [Regs.setPair])
  case incPair p => exact outcome_regs _ s _ k true (by simp [SameBus]) (by simp) (fun h => by cases p <;> first | rfl | cases h)
  case decPair p => exact outcome_regs _ s _ k true (by simp [SameBus]) (by simp) (fun h => by cases p <;> first | rfl | cases h)
  case addSp => exact outcome_regs _ s _ k true (by simp [SameBus]) (by simp) (fun h => by cases h)
  case rotA => exact outcome_regs _ s _ k true (by simp [SameBus]) (by simp) (fun h => by simp)
  case cb c => exact outcome_cb _ k c s
  case prefixCb sub =>
    show Completes _ s (runPrefix sub s)
    unfold runPrefix
    split
    · exact outcome_cb _ _ _ s
    · exact ⟨_, rfl, .inl ⟨_, rfl⟩⟩
  case jp => exact outcome_jump _ s _ k _ (by simp [SameBus]) rfl (fun h => rfl)
  case jpIf =>
    show Completes _ s (jumpIf ..)
    unfold jumpIf
    split
    · exact outcome_jump _ s _ k _ (by simp [SameBus]) rfl (fun h => rfl)
    · exact outcome_regs _ s _ k false (by simp [SameBus]) rfl (fun h => rfl)
  case jpHl => exact outcome_jump _ s _ k _ (by simp [SameBus]) rfl (fun h => rfl)
  case jr => exact outcome_jump _ s _ k _ (by simp [SameBus]) rfl (fun h => rfl)
  case jrIf =>
    show Completes _ s (jumpRelIf ..)
    unfold jumpRelIf
    split
    · exact outcome_jump _ s _ k _ (by simp [SameBus]) rfl (fun h => rfl)
    · exact outcome_regs _ s _ k false (by simp [SameBus]) rfl (fun h => rfl)
  case call nn => exact outcome_push _ s _ _ rfl ⟨rfl, rfl, rfl, rfl, rfl, rfl, rfl⟩ (by simp [push16_eq])
  case callIf cc nn =>
    show Completes _ s (callIf ..)
    unfold callIf
    split
    · exact outcome_push _ s _ _ rfl ⟨rfl, rfl, rfl, rfl, rfl, rfl, rfl⟩ (by simp [push16_eq])
    · exact outcome_regs _ s _ k false (by simp [SameBus]) rfl (fun h => rfl)
  case ret =>
    show Completes .ret s (returnTo ..)
    unfold returnTo
    exact outcome_pop fun w => outcome_jump .ret s _ k _ (by simp [SameBus]) rfl (fun h => by cases h)
  case retIf =>
    show Completes (.retIf _) s (returnIf ..)
    unfold returnIf
    split
    · unfold returnTo
      exact outcome_pop fun w => outcome_jump (.retIf _) s _ k _ (by simp [SameBus]) rfl (fun h => by cases h)
    · exact outcome_regs _ s _ k false (by simp [SameBus]) rfl (fun h => rfl)
  case reti =>
    show Completes .reti s (returnFromInterrupt ..)
    unfold returnFromInterrupt
    exact outcome_pop (f := .reti) fun w => ⟨_, rfl, .inr ⟨s, .inl rfl, rfl, rfl, rfl, rfl, rfl, rfl, rfl, rfl, by simp, by simp, fun _ => rfl, fun h => by cases h⟩⟩
  case rst => exact outcome_push _ s _ _ rfl ⟨rfl, rfl, rfl, rfl, rfl, rfl, rfl⟩ (by simp [push16_eq])
  case nop => exact outcome_regs _ s _ k true (by simp [SameBus]) rfl (fun h => rfl)
  case halt =>
    show Completes _ s (enterHalt ..)
    unfold enterHalt
    split
    · exact ⟨_, rfl, .inl ⟨_, rfl⟩⟩
    · exact ⟨_, rfl, .inr ⟨s, .inl rfl, rfl, rfl, rfl, rfl, rfl, rfl, rfl, rfl, by simp [advance_eq], by intros; rfl, by simp, fun _ => rfl⟩⟩
  case di => exact ⟨_, rfl, .inr ⟨s, .inl rfl, rfl, rfl, rfl, rfl, rfl, rfl, rfl, rfl, by simp [advance_eq], by simp, by intros; rfl, fun _ => rfl⟩⟩
  case ei => exact ⟨_, rfl, .inr ⟨s, .inl rfl, rfl, rfl, rfl, rfl, rfl, rfl, rfl, rfl, by simp [advance_eq], by simp, by intros; rfl, fun _ => rfl⟩⟩
  case stop => exact ⟨_, rfl, .inl ⟨_, rfl⟩⟩
  case illegal => exact ⟨_, rfl, .inl ⟨_, rfl⟩⟩

/-- Every instruction's outcome: the one inversion of `exec`. -/
theorem exec_outcome (i : Instr) (s : State) : Completes (formOf i) s (exec i s) := by
  rw [exec_eq_runForm]; exact runForm_outcome ..

/-- An instruction that completes keeps the state invariant. -/
theorem Ran.inv {f : Form} {s t u : State} (hu : Ran f s u t) (h : s.Inv) : t.Inv := by
  have hui : u.Inv := by
    obtain rfl | ⟨a, v, rfl⟩ | ⟨a, w, rfl⟩ := hu.path
    · exact h
    · exact write8_inv _ _ _ h
    · exact write16_inv _ _ _ h
  exact ⟨by rw [hu.mem]; exact hui.1, by rw [hu.lcd]; exact hui.2⟩

end Sys2Proof.Machine
end

