-- ==== Sys2Proof/Laws/Step.lean ====
section
/-! SUPPORT. The laws of a step: its interrupt part, taking an interrupt, and the fetch. -/

namespace Sys2Proof.Machine

/-! Waiting requests -/

/-- Eligible is waiting. -/
theorem eligible_iff (s : State) (k : Source) : eligible s k = true ↔ Waiting s k := by
  simp [eligible, Waiting, -BitVec.getLsbD_eq_getElem]

/-- The wake condition is that something waits (rule R415). -/
theorem wake_iff (s : State) : wake s = true ↔ ∃ k, Waiting s k := by
  simp only [wake, List.any_eq_true, eligible_iff]
  constructor
  · rintro ⟨k, -, h⟩; exact ⟨k, h⟩
  · rintro ⟨k, h⟩; exact ⟨k, by cases k <;> decide, h⟩

/-- The lowest waiting source is the first eligible one. -/
theorem first_eligible (s : State) (k : Source) (hk : Waiting s k) (hmin : ∀ j, j.index < k.index → ¬Waiting s j) :
    ∃ rest, Source.all.filter (eligible s) = k :: rest := by
  have hk' := (eligible_iff s k).2 hk
  have hn : ∀ j, j.index < k.index → eligible s j = false := fun j hj => by
    by_contra hc; exact hmin j hj ((eligible_iff s j).1 (by simpa using hc))
  cases k
  · exact ⟨[.stat, .timer, .serial, .joypad].filter (eligible s), by simp only [Source.all]; rw [List.filter_cons_of_pos hk']⟩
  · exact ⟨[.timer, .serial, .joypad].filter (eligible s), by simp only [Source.all]; rw [List.filter_cons_of_neg (by simp [hn .vblank (by decide)]), List.filter_cons_of_pos hk']⟩
  · exact ⟨[.serial, .joypad].filter (eligible s), by simp only [Source.all]; rw [List.filter_cons_of_neg (by simp [hn .vblank (by decide)]), List.filter_cons_of_neg (by simp [hn .stat (by decide)]), List.filter_cons_of_pos hk']⟩
  · exact ⟨[.joypad].filter (eligible s), by simp only [Source.all]; rw [List.filter_cons_of_neg (by simp [hn .vblank (by decide)]), List.filter_cons_of_neg (by simp [hn .stat (by decide)]), List.filter_cons_of_neg (by simp [hn .timer (by decide)]), List.filter_cons_of_pos hk']⟩
  · exact ⟨[], by simp only [Source.all]; rw [List.filter_cons_of_neg (by simp [hn .vblank (by decide)]), List.filter_cons_of_neg (by simp [hn .stat (by decide)]), List.filter_cons_of_neg (by simp [hn .timer (by decide)]), List.filter_cons_of_neg (by simp [hn .serial (by decide)]), List.filter_cons_of_pos hk']; rfl⟩

/-- Consuming a request moves one counter. -/
theorem consume_count (s : State) (i j : Source) : (consume s i).irq.pending.count j = if j = i then s.irq.pending.count j - 1 else s.irq.pending.count j := by
  cases i <;> cases j <;> rfl

/-- Consuming several requests moves their counters and nothing else. -/
theorem foldl_consume (l : List Source) (s : State) (hl : l.Nodup) : ∃ p : Pending, l.foldl consume s = { s with irq := { s.irq with pending := p } } ∧ ∀ j, p.count j = if j ∈ l then s.irq.pending.count j - 1 else s.irq.pending.count j := by
  induction l generalizing s with
  | nil => exact ⟨s.irq.pending, rfl, fun j => by simp⟩
  | cons a l ih =>
    obtain ⟨p, hp, hj⟩ := ih (consume s a) (List.nodup_cons.1 hl).2
    refine ⟨p, hp, fun j => ?_⟩
    rw [hj, consume_count]
    have := (List.nodup_cons.1 hl).1
    by_cases hja : j = a
    · subst hja; simp [this]
    · simp [hja]

/-! Taking an interrupt -/

/-- Taking an interrupt, field by field (rule R414). -/
theorem dispatch_eq (s : State) (k : Source) : dispatch s k = { pushed s s.regs.pc with
               regs := { s.regs with sp := s.regs.sp - 2, pc := k.vector }
               irq := { (pushed s s.regs.pc).irq with ime := false }, halted := false
               cycles := s.cycles + s.params.dispatchCycles } := by
  have h1 := push16_eq s s.regs.pc
  have h2 := pushed_eq s s.regs.pc
  rw [dispatch, h1, ← h2]
  simp only [State.setIme, State.setPc, State.setHalted, State.addCycles, State.setRegs, State.setIrq]
  have hr : (pushed s s.regs.pc).regs = s.regs := by rw [h2]; simp
  have hc : (pushed s s.regs.pc).cycles = s.cycles := by rw [h2]; simp
  have hp : (pushed s s.regs.pc).params = s.params := by rw [h2]; simp
  simp only [hc, hp]

/-- Taking an interrupt keeps the state invariant. -/
theorem dispatch_inv (s : State) (k : Source) (h : s.Inv) : (dispatch s k).Inv := by
  have := write16_inv s (s.regs.sp - 2) s.regs.pc h
  rw [dispatch, push16_eq]; exact this

/-! The parts of a step -/

/-- A step that neither stops nor idles runs an instruction (rule R110). -/
theorem step_of_runs {s : State} (h : s.fatal = none) (hi : idles (interruptPhase s) = false) :
    step s = runInstr (readyState s) := by
  simp only [step, h, hi]; rfl

/-- Delivery changes no parameter. -/
theorem deliver_params (s : State) : (deliver s).params = s.params := by
  have hd (t : State) (k : Source) : (dispatch t k).params = t.params := by simp [dispatch, push16_eq]
  have hf (l : List Source) (t : State) : (l.foldl consume t).params = t.params :=
    foldl_keeps (fun u : State => u.params = t.params) consume l t rfl (fun u k (h : u.params = t.params) => (h : (consume u k).params = t.params))
  unfold deliver
  split
  · split
    · rfl
    · split
      · rw [hd]; rfl
      · rw [hd, hf]
  · rfl

@[simp] theorem interruptPhase_params (s : State) : (interruptPhase s).params = s.params :=
  deliver_params { s with events := [] }

@[simp] theorem readyState_params (s : State) : (readyState s).params = s.params := interruptPhase_params s

/-- How many bytes an opcode has. -/
theorem opcodeLength_cases : ∀ op : Byte, op ≠ 0xCB →
    opcodeLength op = 1 ∨ opcodeLength op = 2 ∨ opcodeLength op = 3 := by decide +kernel

end Sys2Proof.Machine
end

