-- ==== Sys2Proof/Tests/Slice0.lean ====
section
/-! SUPPORT. The model's own tests: which terms are instructions, words written out from the encodings, one step on the
vectors of spec/95_test_vectors.md (each test named by its vector), the display, and a witness for every statement that has
hypotheses. -/

open Sys2Proof Sys2Proof.Machine

namespace Sys2Proof.Tests

/-- The machine of spec/95_test_vectors.md, section 0. -/
def base : State :=
  { State.reset with
    params := { Params.default with flagModel := .full, joypadValue := 0xFF, lyMax := 153 }
    mem := { State.reset.mem with cartSize := 0x4000, bootEnabled := false } }

/-- The state after one step. -/
def after (s : State) : Option State :=
  match step s with
  | .next t => some t
  | _ => none

/-- The state after one step, with an instruction's bytes at `pc` and the given bytes elsewhere. -/
def ran (s : State) (pc : Word) (bytes : List Byte) (cells : List (Word × Byte)) : Option State :=
  after (placeBytes (cells.foldl (fun u c => placeByte u c.1 c.2) (s.setPc pc)) pc bytes)

/-- The byte at an address, if it can be read. -/
def byteAt (s : State) (a : Word) : Option Byte := (read8 s a).toOption

/-- Five pending counters. -/
def pend (vblank stat timer serial joypad : Nat) : Pending := { vblank, stat, timer, serial, joypad }

/-! ### Instructions are well formed only as bytes spell them -/

/-- The check on `illegal`: 0x00 is NOP, no illegal byte; all eleven bytes of rule R365 pass. -/
theorem test_illegal_wellFormed :
    ¬(Instr.illegal 0x00).WellFormed ∧ ¬(Instr.illegal 0xCB).WellFormed
      ∧ ∀ b ∈ ([0xD3, 0xDB, 0xDD, 0xE3, 0xE4, 0xEB, 0xEC, 0xED, 0xF4, 0xFC, 0xFD] : List Byte),
          (Instr.illegal b).WellFormed := by
  decide

/-- The check on the bare prefix: rule R304 gives it no effect of its own. -/
theorem test_prefix_not_wellFormed : ¬(Instr.prefixCb 0x00).WellFormed ∧ Instr.rlcB.WellFormed := by decide

/-- The sets of rule R9 at their edges. -/
theorem test_opcode_sets :
    (∀ b ∈ ([0xCB, 0xD3, 0xFD] : List Byte), ByteSet.baseFull.mem b = false)
      ∧ (∀ b ∈ ([0x00, 0x10, 0xFF] : List Byte), ByteSet.baseFull.mem b = true)
      ∧ (∀ b ∈ ([0x0F, 0x20, 0x2F, 0x38, 0x3F] : List Byte), ByteSet.cbDoc.mem b = false)
      ∧ ∀ b ∈ ([0x10, 0x1F, 0x30, 0x37, 0x40, 0xFF] : List Byte), ByteSet.cbDoc.mem b = true := by
  decide

/-! ### Words written out bit by bit from rules R101 to R107 -/

/-- 8-bit loads: `01 dst src`, `00 dst 110`, and the irregular rows of spec/40_load8.md. -/
theorem test_decode_load8 :
    decode [0b01_000_111] = .ok (.ldBA, []) ∧ decode [0b01_110_011] = .ok (.ldAtHLE, [])
      ∧ decode [0b00_101_110, 0x7F] = .ok (.ldLImm 0x7F, []) ∧ decode [0b00_10_0_010] = .ok (.ldAtHLIncA, [])
      ∧ decode [0b00_11_1_010] = .ok (.ldAAtHLDec, []) ∧ decode [0b11_100_000, 0x42] = .ok (.ldhAtImmA 0x42, [])
      ∧ decode [0b11_111_010, 0x34, 0x12] = .ok (.ldAAtImm16 0x1234, []) :=
  ⟨rfl, rfl, rfl, rfl, rfl, rfl, rfl⟩

/-- 16-bit loads: `00 rr 0001`, `11 qq 0101`, `11 qq 0001`. -/
theorem test_decode_load16 :
    decode [0b00_01_0001, 0xCD, 0xAB] = .ok (.ldDEImm16 0xABCD, [])
      ∧ decode [0b00_001_000, 0x01, 0xC0] = .ok (.ldAtImm16SP 0xC001, []) ∧ decode [0b11_11_0101] = .ok (.pushAF, [])
      ∧ decode [0b11_10_0001] = .ok (.popHL, []) ∧ decode [0b11_111_000, 0xFE] = .ok (.ldHLSPDisp 0xFE, []) :=
  ⟨rfl, rfl, rfl, rfl, rfl⟩

/-- Arithmetic: `10 alu src`, `11 alu 110`, `00 dst 10x`, `00 rr x011`, `00 rr 1001`. -/
theorem test_decode_alu :
    decode [0b10_010_001] = .ok (.subC, []) ∧ decode [0b10_101_110] = .ok (.xorAtHL, [])
      ∧ decode [0b11_001_110, 0x0F] = .ok (.adcAImm 0x0F, []) ∧ decode [0b00_110_100] = .ok (.incAtHL, [])
      ∧ decode [0b00_011_101] = .ok (.decE, []) ∧ decode [0b00_01_0011] = .ok (.incDE, [])
      ∧ decode [0b00_11_1011] = .ok (.decSP, []) ∧ decode [0b00_00_1001] = .ok (.addHLBC, [])
      ∧ decode [0b11_101_000, 0x80] = .ok (.addSPDisp 0x80, []) ∧ decode [0b00_100_111] = .ok (.daa, []) :=
  ⟨rfl, rfl, rfl, rfl, rfl, rfl, rfl, rfl, rfl, rfl⟩

/-- Rotates and bits: `00 0xx 111`, and after the prefix `00 op r`, `01 b r`, `10 b r`, `11 b r`. -/
theorem test_decode_rotate :
    decode [0b00_010_111] = .ok (.rla, []) ∧ decode [0xCB, 0b00_110_111] = .ok (.swapA, [])
      ∧ decode [0xCB, 0b00_101_110] = .ok (.sraAtHL, []) ∧ decode [0xCB, 0b01_011_100] = .ok (.bit3H, [])
      ∧ decode [0xCB, 0b10_111_110] = .ok (.res7AtHL, []) ∧ decode [0xCB, 0b11_000_010] = .ok (.set0D, []) :=
  ⟨rfl, rfl, rfl, rfl, rfl, rfl⟩

/-- Control and system: `11 0cc 010`, `11 0cc 100`, `00 1cc 000`, `11 0cc 000`, `11 ttt 111`. -/
theorem test_decode_control :
    decode [0b11_010_010, 0x00, 0x02] = .ok (.jpNCImm16 0x0200, [])
      ∧ decode [0b11_001_100, 0x00, 0x02] = .ok (.callZImm16 0x0200, []) ∧ decode [0b00_111_000, 0x10] = .ok (.jrCDisp 0x10, [])
      ∧ decode [0b11_000_000] = .ok (.retNZ, []) ∧ decode [0b11_101_111] = .ok (.rst28, [])
      ∧ decode [0b11_011_001] = .ok (.reti, []) ∧ decode [0b11_101_001] = .ok (.jpHL, [])
      ∧ decode [0b01_110_110] = .ok (.halt, []) ∧ decode [0b00_010_000, 0x00] = .ok (.stop, [])
      ∧ decode [0b11_110_011] = .ok (.di, []) ∧ decode [0b11_101_101] = .ok (.illegal 0xED, []) :=
  ⟨rfl, rfl, rfl, rfl, rfl, rfl, rfl, rfl, rfl, rfl, rfl⟩

/-- Bytes that end too soon are refused by name. -/
theorem test_decode_short :
    decode [] = .error .noOpcode ∧ decode [0xCB] = .error .noSubOpcode ∧ decode [0xC3, 0x00] = .error .noOperand :=
  ⟨rfl, rfl, rfl⟩

/-- The numbering of the opcode table: a base row's number is the byte, a CB row's is prefix and sub-opcode (rule R113). -/
theorem test_decodeTableWord :
    decodeTableWord 8 0x06 = some (.ldBImm 0x00) ∧ decodeTableWord 16 0xCB7C = some .bit7H
      ∧ decodeTableWord 8 0xD3 = some (.illegal 0xD3) := by
  decide

/-- A word placed at the fetch address is the next step's instruction (RLC B is outside the default `CB_DOC`). -/
theorem test_withFetchWord :
    (after (State.reset.withFetchWord 8 0x04)).map (fun t => (t.regs.b, t.regs.pc)) = some (1, 1)
      ∧ (after (State.reset.withFetchWord 16 0xCB00)).map (fun t => (t.fatal, t.regs.pc)) = some (none, 2) := by
  decide

/-! ### One step on the vectors of spec/95_test_vectors.md -/

/-- V-S8-1c, rule R110. -/
theorem test_v_s8_1c :
    (ran { base with regs := { base.regs with h := 0xC0, l := 0x00 } } 0x0100 [0xCB, 0x7E] []).map
      (fun t => (t.regs.f, t.regs.pc, t.cycles))
      = some (0xA0, 0x0102, 12) := by
  decide

/-- V-S8-4, rule R344. -/
theorem test_v_s8_4 :
    (ran base 0x014E [0x18, 0xFE] []).map
      (fun t => (t.regs.pc, t.cycles))
      = some (0x014E, 12) := by
  decide

/-- V-L8-1, rule R200. -/
theorem test_v_l8_1 :
    (ran { base with regs := { base.regs with b := 0x5A } } 0x0100 [0x78] []).map
      (fun t => (t.regs.a, t.regs.pc, t.cycles))
      = some (0x5A, 0x0101, 4) := by
  decide

/-- V-L8-4, rule R202. -/
theorem test_v_l8_4 :
    (ran { base with regs := { base.regs with h := 0xC1, l := 0x23 } } 0x0100 [0x7E] [(0xC123, 0x9F)]).map
      (fun t => (t.regs.a, t.regs.pc, t.cycles))
      = some (0x9F, 0x0101, 8) := by
  decide

/-- V-L8-6, rule R203: LD (HL),H stores the old H. -/
theorem test_v_l8_6 :
    (ran { base with regs := { base.regs with h := 0xC1, l := 0x00 } } 0x0100 [0x74] []).map
      (fun t => (t.regs.pc, byteAt t 0xC100, t.cycles))
      = some (0x0101, some 0xC1, 8) := by
  decide

/-- V-L8-7, rule R204. -/
theorem test_v_l8_7 :
    (ran { base with regs := { base.regs with h := 0xFF, l := 0x80 } } 0x0100 [0x36, 0x77] []).map
      (fun t => (t.regs.pc, byteAt t 0xFF80, t.cycles))
      = some (0x0102, some 0x77, 12) := by
  decide

/-- V-L8-8, rule R205: read through the WRAM mirror. -/
theorem test_v_l8_8 :
    (ran { base with regs := { base.regs with b := 0xE0, c := 0x10 } } 0x0100 [0x0A] [(0xC010, 0x42)]).map
      (fun t => (t.regs.a, t.regs.pc, t.cycles))
      = some (0x42, 0x0101, 8) := by
  decide

/-- V-L8-9, rule R207: store to cartridge ROM is logged. -/
theorem test_v_l8_9 :
    (ran { base with regs := { base.regs with b := 0x02, c := 0x00, a := 0x55 } } 0x0100 [0x02] []).map
      (fun t => (t.regs.pc, t.cycles, t.events))
      = some (0x0101, 8, [.unmappedWrite 0x0200 0x55]) := by
  decide

/-- V-L8-12, rule R210: store to IE. -/
theorem test_v_l8_12 :
    (ran { base with regs := { base.regs with a := 0x1F } } 0x0100 [0xEA, 0xFF, 0xFF] []).map
      (fun t => (t.regs.pc, t.irq.ie, t.cycles))
      = some (0x0103, 0x1F, 16) := by
  decide

/-- V-L8-13, rule R211: LDH A,(0x44) reads LY. -/
theorem test_v_l8_13 :
    (ran { base with lcd := { base.lcd with ly := 0x90 } } 0x0100 [0xF0, 0x44] []).map
      (fun t => (t.regs.a, t.regs.pc, t.cycles))
      = some (0x90, 0x0102, 12) := by
  decide

/-- V-L8-14, rule R212: two requests latched. -/
theorem test_v_l8_14 :
    (ran { base with regs := { base.regs with a := 0x05 } } 0x0100 [0xE0, 0x0F] []).map
      (fun t => (t.regs.pc, t.irq.pending, t.cycles))
      = some (0x0102, pend 1 0 1 0 0, 12) := by
  decide

/-- V-L8-16, rule R214: boot-ROM exit by LD (C),A. -/
theorem test_v_l8_16 :
    (ran { base with regs := { base.regs with c := 0x50, a := 0x01 } } 0x00FE [0xE2] []).map
      (fun t => (t.regs.pc, t.mem.bootEnabled, t.cycles))
      = some (0x00FF, false, 8) := by
  decide

/-- V-L8-17, rule R215. -/
theorem test_v_l8_17 :
    (ran { base with regs := { base.regs with h := 0xC0, l := 0xFF, a := 0x09 } } 0x0100 [0x22] []).map
      (fun t => (t.regs.h, t.regs.l, t.regs.pc, byteAt t 0xC0FF, t.cycles))
      = some (0xC1, 0x00, 0x0101, some 0x09, 8) := by
  decide

/-- V-L8-18, rule R216. -/
theorem test_v_l8_18 :
    (ran { base with regs := { base.regs with h := 0xC0, l := 0x00, a := 0x77 } } 0x0100 [0x32] []).map
      (fun t => (t.regs.h, t.regs.l, t.regs.pc, byteAt t 0xC000, t.cycles))
      = some (0xBF, 0xFF, 0x0101, some 0x77, 8) := by
  decide

/-- V-L8-19, rule R217: HL+ increments only L here; HL = 0xFFFF. -/
theorem test_v_l8_19 :
    (ran { base with regs := { base.regs with h := 0xFF, l := 0xFE } } 0x0100 [0x2A] [(0xFFFE, 0x12)]).map
      (fun t => (t.regs.a, t.regs.l, t.regs.pc, t.cycles))
      = some (0x12, 0xFF, 0x0101, 8) := by
  decide

/-- V-L8-21, rule R202: external-RAM range is unmapped. -/
theorem test_v_l8_21 :
    (ran { base with regs := { base.regs with h := 0xA0, l := 0x00 } } 0x0100 [0x7E] []).map
      (fun t => (t.fatal, t.regs.pc, t.cycles))
      = some (some (.unmappedRead 0xA000), 0x0100, 0) := by
  decide

/-- V-L8-23, rule R447: STAT write is logged. -/
theorem test_v_l8_23 :
    (ran { base with regs := { base.regs with a := 0x00 } } 0x0100 [0xE0, 0x41] []).map
      (fun t => (t.regs.pc, t.cycles, t.events))
      = some (0x0102, 12, [.unimplemented (.lcdWrite 1)]) := by
  decide

/-- V-L16-3, rule R231. -/
theorem test_v_l16_3 :
    (ran { base with regs := { base.regs with sp := 0xFFF8 } } 0x0100 [0x08, 0x00, 0xC0] []).map
      (fun t => (t.regs.pc, byteAt t 0xC000, byteAt t 0xC001, t.cycles))
      = some (0x0103, some 0xF8, some 0xFF, 20) := by
  decide

/-- V-L16-4, rule R232. -/
theorem test_v_l16_4 :
    (ran { base with regs := { base.regs with h := 0xD0, l := 0x00 } } 0x0100 [0xF9] []).map
      (fun t => (t.regs.sp, t.regs.pc, t.cycles))
      = some (0xD000, 0x0101, 8) := by
  decide

/-- V-L16-6, rule R233. -/
theorem test_v_l16_6 :
    (ran { base with regs := { base.regs with sp := 0x0001 } } 0x0100 [0xF8, 0xFF] []).map
      (fun t => (t.regs.f, t.regs.pc, t.cycles))
      = some (0x30, 0x0102, 12) := by
  decide

/-- V-L16-7, rule R233: Z is cleared even though e = 0. -/
theorem test_v_l16_7 :
    (ran { base with regs := { base.regs with sp := 0xC000, flags := .ofByte 0x80 } } 0x0100 [0xF8, 0x00] []).map
      (fun t => (t.regs.h, t.regs.f, t.regs.pc, t.cycles))
      = some (0xC0, 0x00, 0x0102, 12) := by
  decide

/-- V-L16-9, rule R234. -/
theorem test_v_l16_9 :
    (ran { base with
        regs := { base.regs with sp := 0xD000, a := 0x12, flags := .ofByte 0x90 } }
        0x0100 [0xF5] []).map
      (fun t => (t.regs.sp, t.regs.pc, byteAt t 0xCFFE, byteAt t 0xCFFF, t.cycles))
      = some (0xCFFE, 0x0101, some 0x90, some 0x12, 16) := by
  decide

/-- V-L16-11, rule R236: F low nibble masked. -/
theorem test_v_l16_11 :
    (ran { base with regs := { base.regs with sp := 0xCFFE } } 0x0100 [0xF1] [(0xCFFE, 0xFF), (0xCFFF, 0x01)]).map
      (fun t => (t.regs.a, t.regs.f, t.regs.sp, t.regs.pc, t.cycles))
      = some (0x01, 0xF0, 0xD000, 0x0101, 12) := by
  decide

/-- V-L16-12, rule R234: SP wraps: high byte to IE, low byte to 0xFFFE. -/
theorem test_v_l16_12 :
    (ran { base with regs := { base.regs with sp := 0x0000, b := 0xBE, c := 0xEF } } 0x0100 [0xC5] []).map
      (fun t => (t.regs.sp, t.regs.pc, t.irq.ie, byteAt t 0xFFFE, t.cycles))
      = some (0xFFFE, 0x0101, 0xBE, some 0xEF, 16) := by
  decide

/-- V-A8-1, rule R252. -/
theorem test_v_a8_1 :
    (ran { base with regs := { base.regs with a := 0x3A, b := 0xC6 } } 0x0100 [0x80] []).map
      (fun t => (t.regs.a, t.regs.f, t.regs.pc, t.cycles))
      = some (0x00, 0xB0, 0x0101, 4) := by
  decide

/-- V-A8-4, rule R254. -/
theorem test_v_a8_4 :
    (ran { base with
        regs := { base.regs with a := 0xE1, b := 0x0F, flags := .ofByte 0x10 } }
        0x0100 [0x88] []).map
      (fun t => (t.regs.a, t.regs.f, t.regs.pc, t.cycles))
      = some (0xF1, 0x20, 0x0101, 4) := by
  decide

/-- V-A8-7, rule R257. -/
theorem test_v_a8_7 :
    (ran { base with regs := { base.regs with a := 0x3E } } 0x0100 [0xD6, 0x0F] []).map
      (fun t => (t.regs.a, t.regs.f, t.regs.pc, t.cycles))
      = some (0x2F, 0x60, 0x0102, 8) := by
  decide

/-- V-A8-10, rule R259. -/
theorem test_v_a8_10 :
    (ran { base with regs := { base.regs with a := 0x00, flags := .ofByte 0x10 } } 0x0100 [0xDE, 0x00] []).map
      (fun t => (t.regs.a, t.regs.f, t.regs.pc, t.cycles))
      = some (0xFF, 0x70, 0x0102, 8) := by
  decide

/-- V-A8-11, rule R260. -/
theorem test_v_a8_11 :
    (ran { base with
        regs := { base.regs with a := 0x5A, b := 0x3F, flags := .ofByte 0x10 } }
        0x0100 [0xA0] []).map
      (fun t => (t.regs.a, t.regs.f, t.regs.pc, t.cycles))
      = some (0x1A, 0x20, 0x0101, 4) := by
  decide

/-- V-A8-13, rule R262: XOR A clears A. -/
theorem test_v_a8_13 :
    (ran { base with regs := { base.regs with a := 0x3C, flags := .ofByte 0x10 } } 0x0100 [0xAF] []).map
      (fun t => (t.regs.a, t.regs.f, t.regs.pc, t.cycles))
      = some (0x00, 0x80, 0x0101, 4) := by
  decide

/-- V-A8-18, rule R267: A < n gives C = 1; A unchanged. -/
theorem test_v_a8_18 :
    (ran { base with regs := { base.regs with a := 0x3C } } 0x0100 [0xFE, 0x40] []).map
      (fun t => (t.regs.f, t.regs.pc, t.cycles))
      = some (0x50, 0x0102, 8) := by
  decide

/-- V-A8-20, rule R268: C unaffected. -/
theorem test_v_a8_20 :
    (ran { base with regs := { base.regs with b := 0xFF, flags := .ofByte 0x10 } } 0x0100 [0x04] []).map
      (fun t => (t.regs.b, t.regs.f, t.regs.pc, t.cycles))
      = some (0x00, 0xB0, 0x0101, 4) := by
  decide

/-- V-A8-22, rule R269. -/
theorem test_v_a8_22 :
    (ran { base with regs := { base.regs with h := 0xC0, l := 0x00 } } 0x0100 [0x34] [(0xC000, 0xFF)]).map
      (fun t => (t.regs.f, t.regs.pc, byteAt t 0xC000, t.cycles))
      = some (0xA0, 0x0101, some 0x00, 12) := by
  decide

/-- V-A8-24, rule R270. -/
theorem test_v_a8_24 :
    (ran { base with regs := { base.regs with c := 0x00 } } 0x0100 [0x0D] []).map
      (fun t => (t.regs.c, t.regs.f, t.regs.pc, t.cycles))
      = some (0xFF, 0x60, 0x0101, 4) := by
  decide

/-- V-A8-26, rule R272: DAA refused under the default FLAG_MODEL. -/
theorem test_v_a8_26 :
    (ran { base with
        regs := { base.regs with a := 0x9A }
        params := { base.params with flagModel := .zcDraw } }
        0x0100 [0x27] []).map
      (fun t => (t.fatal, t.regs.pc, t.cycles))
      = some (some (.unimplemented .daa), 0x0100, 0) := by
  decide

/-- V-A8-27, rule R272: FULL. -/
theorem test_v_a8_27 :
    (ran { base with regs := { base.regs with a := 0x9A } } 0x0100 [0x27] []).map
      (fun t => (t.regs.a, t.regs.f, t.regs.pc, t.cycles))
      = some (0x00, 0x90, 0x0101, 4) := by
  decide

/-- V-A8-29, rule R273. -/
theorem test_v_a8_29 :
    (ran { base with regs := { base.regs with a := 0x35 } } 0x0100 [0x2F] []).map
      (fun t => (t.regs.a, t.regs.f, t.regs.pc, t.cycles))
      = some (0xCA, 0x60, 0x0101, 4) := by
  decide

/-- V-A8-30, rule R274. -/
theorem test_v_a8_30 :
    (ran { base with regs := { base.regs with flags := .ofByte 0x80 } } 0x0100 [0x37] []).map
      (fun t => (t.regs.f, t.regs.pc, t.cycles))
      = some (0x90, 0x0101, 4) := by
  decide

/-- V-A8-31, rule R275. -/
theorem test_v_a8_31 :
    (ran { base with regs := { base.regs with flags := .ofByte 0x10 } } 0x0100 [0x3F] []).map
      (fun t => (t.regs.f, t.regs.pc, t.cycles))
      = some (0x00, 0x0101, 4) := by
  decide

/-- V-A8-32, rule R253: (HL) at cart_size is an unmapped read. -/
theorem test_v_a8_32 :
    (ran { base with regs := { base.regs with a := 0x01, h := 0x40, l := 0x00 } } 0x0100 [0x86] []).map
      (fun t => (t.fatal, t.regs.pc, t.cycles))
      = some (some (.unmappedRead 0x4000), 0x0100, 0) := by
  decide

/-- V-A16-1, rule R280. -/
theorem test_v_a16_1 :
    (ran { base with regs := { base.regs with h := 0x8A, l := 0x23, b := 0x06, c := 0x05 } } 0x0100 [0x09] []).map
      (fun t => (t.regs.h, t.regs.l, t.regs.f, t.regs.pc, t.cycles))
      = some (0x90, 0x28, 0x20, 0x0101, 8) := by
  decide

/-- V-A16-2, rule R280: Z unaffected. -/
theorem test_v_a16_2 :
    (ran { base with
        regs := { base.regs with h := 0x8A, l := 0x23, flags := .ofByte 0x80 } }
        0x0100 [0x29] []).map
      (fun t => (t.regs.h, t.regs.l, t.regs.f, t.regs.pc, t.cycles))
      = some (0x14, 0x46, 0xB0, 0x0101, 8) := by
  decide

/-- V-A16-4, rule R281: no flag written. -/
theorem test_v_a16_4 :
    (ran { base with regs := { base.regs with b := 0xFF, c := 0xFF } } 0x0100 [0x03] []).map
      (fun t => (t.regs.b, t.regs.c, t.regs.pc, t.cycles))
      = some (0x00, 0x00, 0x0101, 8) := by
  decide

/-- V-A16-6, rule R282. -/
theorem test_v_a16_6 :
    (ran { base with
        regs := { base.regs with d := 0x00, e := 0x00, flags := .ofByte 0x80 } }
        0x0100 [0x1B] []).map
      (fun t => (t.regs.d, t.regs.e, t.regs.pc, t.cycles))
      = some (0xFF, 0xFF, 0x0101, 8) := by
  decide

/-- V-A16-10, rule R283. -/
theorem test_v_a16_10 :
    (ran { base with regs := { base.regs with sp := 0xC080, flags := .ofByte 0x80 } } 0x0100 [0xE8, 0x80] []).map
      (fun t => (t.regs.f, t.regs.sp, t.regs.pc, t.cycles))
      = some (0x10, 0xC000, 0x0102, 16) := by
  decide

/-- V-R-2, rule R300: ACC_ROTATE_Z = CLEAR. -/
theorem test_v_r_2 :
    (ran { base with regs := { base.regs with a := 0x00, flags := .ofByte 0x80 } } 0x0100 [0x07] []).map
      (fun t => (t.regs.f, t.regs.pc, t.cycles))
      = some (0x00, 0x0101, 4) := by
  decide

/-- V-R-3, rule R300: ACC_ROTATE_Z = ZERO_RULE. -/
theorem test_v_r_3 :
    (ran { base with
        regs := { base.regs with a := 0x00 }
        params := { base.params with accRotateZ := .zeroRule } }
        0x0100 [0x07] []).map
      (fun t => (t.regs.f, t.regs.pc, t.cycles))
      = some (0x80, 0x0101, 4) := by
  decide

/-- V-R-4, rule R301. -/
theorem test_v_r_4 :
    (ran { base with regs := { base.regs with a := 0x01 } } 0x0100 [0x0F] []).map
      (fun t => (t.regs.a, t.regs.f, t.regs.pc, t.cycles))
      = some (0x80, 0x10, 0x0101, 4) := by
  decide

/-- V-R-5, rule R302. -/
theorem test_v_r_5 :
    (ran { base with regs := { base.regs with a := 0x95, flags := .ofByte 0x10 } } 0x0100 [0x17] []).map
      (fun t => (t.regs.a, t.regs.pc, t.cycles))
      = some (0x2B, 0x0101, 4) := by
  decide

/-- V-R-6, rule R303. -/
theorem test_v_r_6 :
    (ran { base with regs := { base.regs with a := 0x81 } } 0x0100 [0x1F] []).map
      (fun t => (t.regs.a, t.regs.f, t.regs.pc, t.cycles))
      = some (0x40, 0x10, 0x0101, 4) := by
  decide

/-- V-R-8, rule R307. -/
theorem test_v_r_8 :
    (ran { base with
        regs := { base.regs with h := 0xC0, l := 0x00, flags := .ofByte 0x10 } }
        0x0100 [0xCB, 0x16] [(0xC000, 0x7F)]).map
      (fun t => (t.regs.f, t.regs.pc, byteAt t 0xC000, t.cycles))
      = some (0x00, 0x0102, some 0xFF, 12) := by
  decide

/-- V-R-10, rule R308. -/
theorem test_v_r_10 :
    (ran { base with regs := { base.regs with b := 0x8A, flags := .ofByte 0x10 } } 0x0100 [0xCB, 0x18] []).map
      (fun t => (t.regs.b, t.regs.f, t.regs.pc, t.cycles))
      = some (0xC5, 0x00, 0x0102, 8) := by
  decide

/-- V-R-11, rule R311. -/
theorem test_v_r_11 :
    (ran { base with regs := { base.regs with a := 0xF1, flags := .ofByte 0x10 } } 0x0100 [0xCB, 0x37] []).map
      (fun t => (t.regs.a, t.regs.f, t.regs.pc, t.cycles))
      = some (0x1F, 0x00, 0x0102, 8) := by
  decide

/-- V-R-14, rule R313. -/
theorem test_v_r_14 :
    (ran { base with regs := { base.regs with h := 0x80, flags := .ofByte 0x10 } } 0x0100 [0xCB, 0x7C] []).map
      (fun t => (t.regs.f, t.regs.pc, t.cycles))
      = some (0x30, 0x0102, 8) := by
  decide

/-- V-R-16, rule R313: BIT b,(HL) costs 12. -/
theorem test_v_r_16 :
    (ran { base with regs := { base.regs with h := 0xC0, l := 0x00 } } 0x0100 [0xCB, 0x46] [(0xC000, 0x01)]).map
      (fun t => (t.regs.f, t.regs.pc, t.cycles))
      = some (0x20, 0x0102, 12) := by
  decide

/-- V-R-18, rule R314. -/
theorem test_v_r_18 :
    (ran { base with regs := { base.regs with h := 0xC0, l := 0x00 } } 0x0100 [0xCB, 0xBE] [(0xC000, 0xFF)]).map
      (fun t => (t.regs.pc, byteAt t 0xC000, t.cycles))
      = some (0x0102, some 0x7F, 12) := by
  decide

/-- V-R-20, rule R315. -/
theorem test_v_r_20 :
    (ran { base with regs := { base.regs with h := 0xD0, l := 0x00 } } 0x0100 [0xCB, 0xFE] [(0xD000, 0x00)]).map
      (fun t => (t.regs.pc, byteAt t 0xD000, t.cycles))
      = some (0x0102, some 0x80, 12) := by
  decide

/-- V-R-21, rule R366: RLC B outside CB_DOC. -/
theorem test_v_r_21 :
    (ran { base with regs := { base.regs with b := 0x80 } } 0x0100 [0xCB, 0x00] []).map
      (fun t => (t.fatal, t.regs.pc, t.cycles))
      = some (some (.decode 0x0100 0xCB (some 0x00)), 0x0100, 0) := by
  decide

/-- V-R-22, rule R305: RLC B under CB_FULL. -/
theorem test_v_r_22 :
    (ran { base with
        regs := { base.regs with b := 0x80 }
        params := { base.params with supportedCb := ByteSet.cbFull } }
        0x0100 [0xCB, 0x00] []).map
      (fun t => (t.regs.b, t.regs.f, t.regs.pc, t.cycles))
      = some (0x01, 0x10, 0x0102, 8) := by
  decide

/-- V-R-23, rule R309: SLA A under CB_FULL. -/
theorem test_v_r_23 :
    (ran { base with
        regs := { base.regs with a := 0x80 }
        params := { base.params with supportedCb := ByteSet.cbFull } }
        0x0100 [0xCB, 0x27] []).map
      (fun t => (t.regs.a, t.regs.f, t.regs.pc, t.cycles))
      = some (0x00, 0x90, 0x0102, 8) := by
  decide

/-- V-R-24, rule R310: SRA A under CB_FULL. -/
theorem test_v_r_24 :
    (ran { base with
        regs := { base.regs with a := 0x81 }
        params := { base.params with supportedCb := ByteSet.cbFull } }
        0x0100 [0xCB, 0x2F] []).map
      (fun t => (t.regs.a, t.regs.f, t.regs.pc, t.cycles))
      = some (0xC0, 0x10, 0x0102, 8) := by
  decide

/-- V-C-2, rule R342: not taken. -/
theorem test_v_c_2 :
    (ran { base with regs := { base.regs with flags := .ofByte 0x80 } } 0x0100 [0xC2, 0x00, 0x02] []).map
      (fun t => (t.regs.pc, t.cycles))
      = some (0x0103, 12) := by
  decide

/-- V-C-4, rule R343. -/
theorem test_v_c_4 :
    (ran { base with regs := { base.regs with h := 0xC0, l := 0x00 } } 0x0100 [0xE9] []).map
      (fun t => (t.regs.pc, t.cycles))
      = some (0xC000, 4) := by
  decide

/-- V-C-6, rule R344: most negative displacement: 0x0102 - 128. -/
theorem test_v_c_6 :
    (ran base 0x0100 [0x18, 0x80] []).map
      (fun t => (t.regs.pc, t.cycles))
      = some (0x0082, 12) := by
  decide

/-- V-C-8, rule R345. -/
theorem test_v_c_8 :
    (ran base 0x0010 [0x20, 0xFB] []).map
      (fun t => (t.regs.pc, t.cycles))
      = some (0x000D, 12) := by
  decide

/-- V-C-9, rule R345: not taken. -/
theorem test_v_c_9 :
    (ran base 0x0010 [0x28, 0xFB] []).map
      (fun t => (t.regs.pc, t.cycles))
      = some (0x0012, 8) := by
  decide

/-- V-C-11, rule R346. -/
theorem test_v_c_11 :
    (ran { base with regs := { base.regs with sp := 0xFFFE } } 0x0150 [0xCD, 0x00, 0x02] []).map
      (fun t => (t.regs.sp, t.regs.pc, byteAt t 0xFFFC, byteAt t 0xFFFD, t.cycles))
      = some (0xFFFC, 0x0200, some 0x53, some 0x01, 24) := by
  decide

/-- V-C-15, rule R349: RET NZ not taken. -/
theorem test_v_c_15 :
    (ran { base with regs := { base.regs with sp := 0xFFFC, flags := .ofByte 0x80 } } 0x0100 [0xC0] []).map
      (fun t => (t.regs.pc, t.cycles))
      = some (0x0101, 8) := by
  decide

/-- V-C-16, rule R349: RET NC taken. -/
theorem test_v_c_16 :
    (ran { base with regs := { base.regs with sp := 0xFFFC } } 0x0100 [0xD0] [(0xFFFC, 0x00), (0xFFFD, 0x30)]).map
      (fun t => (t.regs.sp, t.regs.pc, t.cycles))
      = some (0xFFFE, 0x3000, 20) := by
  decide

/-- V-C-17, rule R350. -/
theorem test_v_c_17 :
    (ran { base with regs := { base.regs with sp := 0xFFFC } } 0x0100 [0xD9] [(0xFFFC, 0x00), (0xFFFD, 0x02)]).map
      (fun t => (t.regs.sp, t.regs.pc, t.irq.ime, t.cycles))
      = some (0xFFFE, 0x0200, true, 16) := by
  decide

/-- V-C-18, rule R351. -/
theorem test_v_c_18 :
    (ran { base with regs := { base.regs with sp := 0xFFFE } } 0x0300 [0xEF] []).map
      (fun t => (t.regs.sp, t.regs.pc, byteAt t 0xFFFC, byteAt t 0xFFFD, t.cycles))
      = some (0xFFFC, 0x0028, some 0x01, some 0x03, 16) := by
  decide

/-- V-S-1, rule R360. -/
theorem test_v_s_1 :
    (ran base 0x0100 [0x00] []).map
      (fun t => (t.regs.pc, t.cycles))
      = some (0x0101, 4) := by
  decide

/-- V-S-3, rule R361: halt bug case refused. -/
theorem test_v_s_3 :
    (ran { base with irq := { base.irq with ie := 0x01, pending := pend 1 0 0 0 0 } } 0x0200 [0x76] []).map
      (fun t => (t.fatal, t.regs.pc, t.cycles))
      = some (some (.unimplemented .haltBug), 0x0200, 0) := by
  decide

/-- V-S-5, rule R415: idle halted step: no fetch. -/
theorem test_v_s_5 :
    (ran { base with halted := true } 0x0201 [0x76] []).map
      (fun t => (t.regs.pc, t.cycles))
      = some (0x0201, 4) := by
  decide

/-- V-S-6, rule R415: wake without IME: no dispatch, the NOP runs. -/
theorem test_v_s_6 :
    (ran { base with
        irq := { base.irq with ie := 0x04, pending := pend 0 0 1 0 0 }
        halted := true }
        0x0201 [0x00] []).map
      (fun t => (t.regs.pc, t.halted, t.cycles))
      = some (0x0202, false, 4) := by
  decide

/-- V-S-7, rule R362. -/
theorem test_v_s_7 :
    (ran { base with irq := { base.irq with ime := true, imePrev := true } } 0x0100 [0xF3] []).map
      (fun t => (t.regs.pc, t.irq.ime, t.cycles))
      = some (0x0101, false, 4) := by
  decide

/-- V-S-8, rule R363. -/
theorem test_v_s_8 :
    (ran base 0x0100 [0xFB] []).map
      (fun t => (t.regs.pc, t.irq.ime, t.cycles))
      = some (0x0101, true, 4) := by
  decide

/-- V-S-9, rule R364. -/
theorem test_v_s_9 :
    (ran base 0x0150 [0x10, 0x00] []).map
      (fun t => (t.fatal, t.regs.pc, t.cycles))
      = some (some (.unimplemented .stop), 0x0150, 0) := by
  decide

/-- V-S-11, rule R365: dispatch, then the handler byte is illegal. -/
theorem test_v_s_11 :
    (ran { base with
        regs := { base.regs with sp := 0xD000 }
        irq := { base.irq with ime := true, imePrev := true, ie := 0x01, pending := pend 1 0 0 0 0 } }
        0x0200 [0xFD] [(0x0040, 0xFD)]).map
      (fun t => (t.fatal, [t.regs.sp, t.regs.pc], t.irq, byteAt t 0xCFFF, t.cycles))
      = some (some (.decode 0x0040 0xFD none), [0xCFFE, 0x0040],
        { ime := false, imePrev := false, ie := 0x01, pending := pend 0 0 0 0 0 }, some 0x02, 20) := by
  decide

/-- V-S-13, rule R366: sub-opcode at cart_size: unmapped read first. -/
theorem test_v_s_13 :
    (ran base 0x3FFF [0xCB] []).map
      (fun t => (t.fatal, t.regs.pc, t.cycles))
      = some (some (.unmappedRead 0x4000), 0x3FFF, 0) := by
  decide

/-- V-I-1, rule R412: VBlank first; the handler NOP runs in the same step. -/
theorem test_v_i_1 :
    (ran { base with
        regs := { base.regs with sp := 0xD000 }
        irq := { base.irq with ime := true, imePrev := true, ie := 0x05, pending := pend 1 0 1 0 0 } }
        0x0123 [0x00] [(0x0040, 0x00)]).map
      (fun t => ([t.regs.sp, t.regs.pc], t.irq, [byteAt t 0xCFFE, byteAt t 0xCFFF], t.cycles))
      = some ([0xCFFE, 0x0041], { ime := false, imePrev := false, ie := 0x05, pending := pend 0 0 1 0 0 }, [some
        0x23, some 0x01], 24) := by
  decide

/-- V-I-2, rule R412: CONSUME_ALL. -/
theorem test_v_i_2 :
    (ran { base with
        regs := { base.regs with sp := 0xD000 }
        irq := { base.irq with ime := true, imePrev := true, ie := 0x05, pending := pend 1 0 1 0 0 }
        params := { base.params with delivery := .consumeAll } }
        0x0123 [0x00] [(0x0040, 0x00)]).map
      (fun t => ([t.regs.sp, t.regs.pc], t.irq, [byteAt t 0xCFFE, byteAt t 0xCFFF], t.cycles))
      = some ([0xCFFE, 0x0041], { ime := false, imePrev := false, ie := 0x05, pending := pend 0 0 0 0 0 }, [some
        0x23, some 0x01], 24) := by
  decide

/-- V-I-3, rule R412: IE_GATES = false. -/
theorem test_v_i_3 :
    (ran { base with
        regs := { base.regs with sp := 0xD000 }
        irq := { base.irq with ime := true, imePrev := true, ie := 0x00, pending := pend 1 0 0 0 0 }
        params := { base.params with ieGates := false } }
        0x0123 [0x00] [(0x0040, 0x00)]).map
      (fun t => ([t.regs.sp, t.regs.pc], t.irq, [byteAt t 0xCFFE, byteAt t 0xCFFF], t.cycles))
      = some ([0xCFFE, 0x0041], { ime := false, imePrev := false, ie := 0x00, pending := pend 0 0 0 0 0 }, [some
        0x23, some 0x01], 24) := by
  decide

/-- V-I-4, rule R412: ime_prev false: no delivery. -/
theorem test_v_i_4 :
    (ran { base with
        irq := { base.irq with ime := true, imePrev := false, ie := 0x01, pending := pend 1 0 0 0 0 } }
        0x0123 [0x00] []).map
      (fun t => (t.regs.pc, t.irq.imePrev, t.cycles))
      = some (0x0124, true, 4) := by
  decide

/-- V-I-5, rule R412: DI in the previous step does not stop this delivery. -/
theorem test_v_i_5 :
    (ran { base with
        regs := { base.regs with sp := 0xD000 }
        irq := { base.irq with ime := false, imePrev := true, ie := 0x10, pending := pend 0 0 0 0 3 } }
        0x0123 [0x00] [(0x0060, 0x00)]).map
      (fun t => ([t.regs.sp, t.regs.pc], t.irq, [byteAt t 0xCFFE, byteAt t 0xCFFF], t.cycles))
      = some ([0xCFFE, 0x0061], { ime := false, imePrev := false, ie := 0x10, pending := pend 0 0 0 0 2 }, [some
        0x23, some 0x01], 24) := by
  decide

/-- V-I-6, rule R410: bits 7..5 ignored. -/
theorem test_v_i_6 :
    (ran { base with
        regs := { base.regs with a := 0xFF }
        irq := { base.irq with pending := pend 1 0 0 0 0 } }
        0x0100 [0xE0, 0x0F] []).map
      (fun t => (t.regs.pc, t.irq.pending, t.cycles))
      = some (0x0102, pend 2 1 1 1 1, 12) := by
  decide

/-- V-I-7, rule R410: IF read, IF_UNUSED = 0b111. -/
theorem test_v_i_7 :
    (ran { base with irq := { base.irq with pending := pend 0 2 0 0 1 } } 0x0100 [0xF0, 0x0F] []).map
      (fun t => (t.regs.a, t.regs.pc, t.cycles))
      = some (0xF2, 0x0102, 12) := by
  decide

/-- V-M-2, rule R65: cart_size 0x8000 shadows VRAM byte 0. -/
theorem test_v_m_2 :
    (ran { base with mem := { base.mem with cartSize := 0x8000 } } 0x0100 [0xFA, 0x00, 0x80] []).map
      (fun t => (t.fatal, t.regs.pc, t.cycles))
      = some (some (.unmappedRead 0x8000), 0x0100, 0) := by
  decide

/-- V-M-3, rule R65: write at 0x8000 goes to CART and is logged. -/
theorem test_v_m_3 :
    (ran { base with
        regs := { base.regs with a := 0x12 }
        mem := { base.mem with cartSize := 0x8000 } }
        0x0100 [0xEA, 0x00, 0x80] []).map
      (fun t => (t.regs.pc, t.cycles, t.events))
      = some (0x0103, 16, [.unmappedWrite 0x8000 0x12]) := by
  decide

/-- V-M-4, rule R67: mirror 0xFD00 is WRAM 0xDD00. -/
theorem test_v_m_4 :
    (ran { base with regs := { base.regs with a := 0x5A } } 0x0100 [0xEA, 0x00, 0xFD] []).map
      (fun t => (t.regs.pc, byteAt t 0xDD00, t.cycles))
      = some (0x0103, some 0x5A, 16) := by
  decide

/-- V-M-7, rule R70: writing 2 to 0xFF50 does nothing. -/
theorem test_v_m_7 :
    (ran { base with regs := { base.regs with a := 0x02 } } 0x0200 [0xE0, 0x50] []).map
      (fun t => (t.regs.pc, t.cycles))
      = some (0x0202, 12) := by
  decide

/-- V-M-9, rule R75: low byte to 0xDFFF, high byte to 0xE000, which is the mirror of 0xC000. -/
theorem test_v_m_9 :
    (ran { base with regs := { base.regs with sp := 0xBEEF } } 0x0100 [0x08, 0xFF, 0xDF] []).map
      (fun t => (t.regs.pc, byteAt t 0xC000, byteAt t 0xDFFF, t.cycles))
      = some (0x0103, some 0xBE, some 0xEF, 20) := by
  decide

/-- V-D-1, rule R441. -/
theorem test_v_d_1 :
    (ran { base with regs := { base.regs with a := 0x91 } } 0x0100 [0xE0, 0x40] []).map
      (fun t => (t.regs.pc, t.lcd.lcdc, t.cycles))
      = some (0x0102, 0x91, 12) := by
  decide

/-- V-D-2, rule R442: one render. -/
theorem test_v_d_2 :
    (ran { base with
        regs := { base.regs with a := 0x10 }
        lcd := { base.lcd with lcdc := 0x91 } }
        0x0100 [0xE0, 0x42] []).map
      (fun t => (t.regs.pc, t.lcd.scy, t.cycles))
      = some (0x0102, 0x10, 12) := by
  decide

/-- V-D-3, rule R452: LCDC bit 4 = 0: signed mode logged. -/
theorem test_v_d_3 :
    (ran { base with
        regs := { base.regs with a := 0x08 }
        lcd := { base.lcd with lcdc := 0x81 } }
        0x0100 [0xE0, 0x43] []).map
      (fun t => (t.regs.pc, t.lcd.scx, t.cycles, t.events))
      = some (0x0102, 0x08, 12, [.unimplemented .signedTileData]) := by
  decide

/-- V-D-4, rule R443: LY write logged, LY unchanged. -/
theorem test_v_d_4 :
    (ran { base with
        regs := { base.regs with a := 0x00 }
        lcd := { base.lcd with ly := 0x20 } }
        0x0100 [0xE0, 0x44] []).map
      (fun t => (t.regs.pc, t.cycles, t.events))
      = some (0x0102, 12, [.unimplemented .lyWrite]) := by
  decide

/-- V-D-6, rule R445: basic variant: OBP0 write logged. -/
theorem test_v_d_6 :
    (ran { base with regs := { base.regs with a := 0xE4 } } 0x0100 [0xE0, 0x48] []).map
      (fun t => (t.regs.pc, t.cycles, t.events))
      = some (0x0102, 12, [.unimplemented (.lcdWrite 8)]) := by
  decide

/-! ### The display and the host -/

/-- The bytes of program P3: row 0 of tile 1 is 0xF0, 0xCC, and map place (0, 0) holds tile 1. -/
def picture : State :=
  { base with
    mem := { base.mem with vram := [(0x10, 0xF0), (0x11, 0xCC), (0x1800, 0x01)] }
    lcd := { base.lcd with lcdc := 0x91, bgp := 0xE4, bgTable := decodeBgp 0xE4 } }

/-- Program P3, render 1: tile (0, 0) gives `fb[0][0..7]` = 3 3 1 1 2 2 0 0. -/
theorem test_tile_unscrolled :
    paintTile picture.mem.vram picture.lcd 0 [] 0
      = [(0, .black), (1, .black), (2, .lightGray), (3, .lightGray), (4, .darkGray), (5, .darkGray)] := by
  decide

/-- Program P3, render 2: with SCX = 2 the tile's first two pixels wrap to columns 158 and 159. -/
theorem test_tile_scrolled :
    paintTile picture.mem.vram { picture.lcd with scx := 2 } 0 [] 0
      = [(0, .lightGray), (1, .lightGray), (2, .darkGray), (3, .darkGray), (158, .black), (159, .black)] := by
  decide

/-- Rule R454: one tile alone covers a pixel at margin 0; with margin 1 tile row 18 and tile column 20 come over the first
ones, later in loop order. -/
theorem test_drawnOver :
    drawnOver 0 0 0 = [(0, 0)] ∧ drawnOver 1 5 7 = [(5, 7)] ∧ drawnOver 1 0 7 = [(0, 7), (18, 7)]
      ∧ drawnOver 1 0 0 = [(0, 0), (0, 20), (18, 0), (18, 20)] := by
  decide

/-- Rule R454: the tile at (18, 20) lands on the cells of the one at (0, 0). -/
theorem test_tile_wraps :
    paintTile picture.mem.vram { picture.lcd with scy := 112, scx := 96 } 18 [] 20
      = [(0, .black), (1, .black), (2, .lightGray), (3, .lightGray), (4, .darkGray), (5, .darkGray)] := by
  decide

/-- Rule R444's example from the source's §8: 0b11100100 decodes to white, light gray, dark gray, black. -/
theorem test_bgp_ramp :
    decodeBgp 0b11100100 = { entry0 := .white, entry1 := .lightGray, entry2 := .darkGray, entry3 := .black } := by
  decide

/-- Rules R460 and R461: the display step counts up to `LY_MAX` and holds; `start_frame()` sets LY to 0. -/
theorem test_display_calls :
    (displayStep { base with lcd := { base.lcd with ly := 152 } }).lcd.ly = 153
      ∧ (displayStep { base with lcd := { base.lcd with ly := 153 } }).lcd.ly = 153
      ∧ (startFrame { base with lcd := { base.lcd with ly := 153 } }).lcd.ly = 0 := by
  decide

/-- Rule R500: an empty boot image is a LoadError of code 1. -/
theorem test_short_boot_image :
    construct [] [] { vram := [], wram := [], hram := [] } Params.default = .error (.bootLength 0)
      ∧ (LoadError.bootLength 0).code = 1 :=
  ⟨rfl, rfl⟩

/-- A fold of steps that each change nothing changes nothing. -/
theorem foldl_fixed {α β : Type} {f : β → α → β} (h : ∀ b a, f b a = b) (l : List α) (b : β) : l.foldl f b = b := by
  induction l generalizing b with
  | nil => rfl
  | cons a l ih => rw [List.foldl_cons, h, ih]

/-- Blank video memory renders white. -/
theorem renderedFb_blank (l : Lcd) (margin : Nat) : renderedFb [] l margin = [] :=
  foldl_fixed (fun _ _ => foldl_fixed (fun _ _ => foldl_fixed (fun _ _ => foldl_fixed (fun _ px => by
    have h : pixelIndex 0 0 px = 0 := by simp [pixelIndex]
    exact if_pos h) _ _) _ _) _ _) _ _

/-! ### Witnesses: for every statement with hypotheses, a state and operands that meet them -/

/-- HL, SP and the pointers in WRAM; A, B and the flags set. -/
def ready : State :=
  { base with
    regs := { base.regs with
      a := 0x99, b := 0xC0, c := 0x80, d := 0xC1, h := 0xC2, sp := 0xD000, pc := 0x0100, flags := .ofByte 0x90 } }

theorem witness_DecodeOfEncodeIsInstr : Instr.ldCB.WellFormed ∧ (Instr.illegal 0xFD).WellFormed := by decide

theorem witness_EncodeOfDecodeIsBytes :
    decode [0x3E, 0x80, 0xFF] = .ok (.ldAImm 0x80, [0xFF]) ∧ Instr.ldAImm 0x80 ≠ .stop := ⟨rfl, nofun⟩

theorem witness_MapsAgreeWithFields : (0xCC : Byte) ≠ 0xCB ∧ (0x00 : Byte) ≠ 0xCB := by decide

theorem witness_LengthsAndDefaultCosts :
    (Instr.bit7H.WellFormed ∧ Instr.bit7H.opKey = .cb 0x7C) ∧ Params.default.cycles = []
      ∧ (Instr.illegal 0xFD).WellFormed ∧ (Instr.pushBC).WellFormed ∧ (Instr.retNC).WellFormed :=
  ⟨⟨by decide, rfl⟩, rfl, by decide, by decide, by decide⟩

theorem witness_PrefixRunsSelectedInstr :
    (ready.params.supportedCb.mem 0x10 = true ∧ ¬(0x10 : Byte).toNat % 8 = 6)
      ∧ (ready.params.supportedCb.mem 0xFE = true ∧ (0xFE : Byte).toNat % 8 = 6 ∧ read8 ready ready.regs.hl = .ok 0)
      ∧ ready.params.supportedCb.mem 0x00 = false :=
  ⟨by decide, ⟨by decide, by decide, rfl⟩, by decide⟩

theorem witness_LoadRegisterCompletes :
    (formOf .ldAB = .ld .a .b ∧ get8 ready .b = .ok 0xC0) ∧ (formOf .ldLAtHL = .ld .l .atHL ∧ get8 ready .atHL = .ok 0)
      ∧ formOf (.ldAImm 0xFF) = .ldImm .a 0xFF ∧ Sel.a ≠ .atHL ∧ Sel.l ≠ .atHL :=
  ⟨⟨rfl, rfl⟩, ⟨rfl, rfl⟩, rfl, nofun, nofun⟩

theorem witness_LoadAIndirectCompletes :
    ∀ p : Ptr, ∃ i a hl v, formOf i = .ldAInd p ∧ (p = .bc → a = ready.regs.bc ∧ hl = ready.regs.hl)
      ∧ (p = .de → a = ready.regs.de ∧ hl = ready.regs.hl) ∧ (p = .hlInc → a = ready.regs.hl ∧ hl = ready.regs.hl + 1)
      ∧ (p = .hlDec → a = ready.regs.hl ∧ hl = ready.regs.hl - 1) ∧ read8 ready a = .ok v
  | .bc => ⟨.ldAAtBC, ready.regs.bc, ready.regs.hl, 0, rfl, fun _ => ⟨rfl, rfl⟩, nofun, nofun, nofun, rfl⟩
  | .de => ⟨.ldAAtDE, ready.regs.de, ready.regs.hl, 0, rfl, nofun, fun _ => ⟨rfl, rfl⟩, nofun, nofun, rfl⟩
  | .hlInc => ⟨.ldAAtHLInc, ready.regs.hl, ready.regs.hl + 1, 0, rfl, nofun, nofun, fun _ => ⟨rfl, rfl⟩, nofun, rfl⟩
  | .hlDec => ⟨.ldAAtHLDec, ready.regs.hl, ready.regs.hl - 1, 0, rfl, nofun, nofun, nofun, fun _ => ⟨rfl, rfl⟩, rfl⟩

/-- The ends of the high page: 0xFF00 is the joypad, 0xFFFF is IE, 0xFF80 is HRAM. -/
theorem witness_LoadADirectCompletes :
    (formOf (.ldAAtImm16 0xFFFF) = .ldAFrom (.abs 0xFFFF) ∧ read8 ready 0xFFFF = .ok 0)
      ∧ (formOf (.ldhAAtImm 0x00) = .ldAFrom (.high 0x00) ∧ (0xFF00 : Word).toNat = 0xFF00 + (0x00 : Byte).toNat
          ∧ read8 ready 0xFF00 = .ok 0xFF)
      ∧ (formOf (.ldhAAtImm 0xFF) = .ldAFrom (.high 0xFF) ∧ (0xFFFF : Word).toNat = 0xFF00 + (0xFF : Byte).toNat)
      ∧ formOf .ldAAtC = .ldAFrom .highC ∧ (0xFF80 : Word).toNat = 0xFF00 + ready.regs.c.toNat
      ∧ read8 ready 0xFF80 = .ok 0 :=
  ⟨⟨rfl, rfl⟩, ⟨rfl, rfl, rfl⟩, ⟨rfl, rfl⟩, rfl, rfl, rfl⟩

theorem witness_StoreByteCompletes :
    byteStore ready (formOf .ldAtHLB) = some (0xC200, 0xC0) ∧ byteStore ready (formOf (.ldAtHLImm 7)) = some (0xC200, 7)
      ∧ byteStore ready (formOf .ldAtBCA) = some (0xC080, 0x99) ∧ byteStore ready (formOf .ldAtDEA) = some (0xC100, 0x99)
      ∧ byteStore ready (formOf .ldAtHLIncA) = some (0xC200, 0x99)
      ∧ byteStore ready (formOf .ldAtHLDecA) = some (0xC200, 0x99)
      ∧ byteStore ready (formOf (.ldAtImm16A 0xFFFF)) = some (0xFFFF, 0x99)
      ∧ byteStore ready (formOf (.ldhAtImmA 0x50)) = some (0xFF50, 0x99)
      ∧ byteStore ready (formOf .ldAtCA) = some (0xFF80, 0x99) := by
  decide

/-- The overlay on and A = 1: the store to 0xFF50 uncovers the cartridge; 0x0100 is the lowest address that it leaves. -/
def booting : State :=
  { ready with mem := { base.mem with bootEnabled := true }, regs := { ready.regs with a := 1 } }

theorem witness_StoreByteLeavesOtherBytes :
    (∃ t, byteStore booting (formOf (.ldhAtImmA 0x50)) = some (0xFF50, 1) ∧ exec (.ldhAtImmA 0x50) booting = .next t
        ∧ place booting.mem 0x0100 ≠ place booting.mem 0xFF50 ∧ 0x100 ≤ (0x0100 : Word).toNat)
      ∧ ∃ t, byteStore ready (formOf .ldAtHLB) = some (0xC200, 0xC0) ∧ exec .ldAtHLB ready = .next t
        ∧ place ready.mem 0xE201 ≠ place ready.mem 0xC200 ∧ clearsBoot ready.mem 0xC200 0xC0 = false :=
  ⟨⟨_, by decide, rfl, by decide, by decide⟩, ⟨_, by decide, rfl, by decide, by decide⟩⟩

theorem witness_UpdateByteLeavesOtherBytes :
    ∃ t, read8 ready ready.regs.hl = .ok 0 ∧ byteUpdate ready 0 (formOf .set7AtHL) = some 0x80
      ∧ exec .set7AtHL ready = .next t ∧ place ready.mem 0xE201 ≠ place ready.mem ready.regs.hl :=
  ⟨_, rfl, by decide, rfl, by decide⟩

theorem witness_StoreWordLeavesOtherBytes :
    ∀ i ∈ [Instr.pushBC, .ldAtImm16SP 0xCFFE, .callImm16 0x0200, .callCImm16 0x0200, .rst38],
      ∃ w t, wordStore ready (formOf i) = some (0xCFFE, w) ∧ exec i ready = .next t
        ∧ place ready.mem 0xD000 ≠ place ready.mem 0xCFFE ∧ place ready.mem 0xD000 ≠ place ready.mem (0xCFFE + 1)
        ∧ clearsBoot ready.mem 0xCFFE (loByte w) = false ∧ clearsBoot ready.mem (0xCFFE + 1) (hiByte w) = false := by
  have h (w : Word) : place ready.mem 0xD000 ≠ place ready.mem 0xCFFE
      ∧ place ready.mem 0xD000 ≠ place ready.mem (0xCFFE + 1)
      ∧ clearsBoot ready.mem 0xCFFE (loByte w) = false ∧ clearsBoot ready.mem (0xCFFE + 1) (hiByte w) = false :=
    ⟨by decide, by decide, rfl, rfl⟩
  intro i hi
  simp only [List.mem_cons, List.not_mem_nil, or_false] at hi
  obtain rfl | rfl | rfl | rfl | rfl := hi <;> exact ⟨_, _, rfl, rfl, h _⟩

theorem witness_StorelessLeavesMemory :
    ∃ t u, (storesNothing ready (formOf .bit7H) ∧ exec .bit7H ready = .next t)
      ∧ storesNothing ready (formOf (.callNZImm16 0)) ∧ exec (.callNZImm16 0) ready = .next u :=
  ⟨_, _, ⟨⟨rfl, rfl, rfl, nofun⟩, rfl⟩, ⟨rfl, rfl, rfl, nofun⟩, rfl⟩

theorem witness_LoadPairCompletes :
    formOf (.ldSPImm16 0xFFFE) = .ldPair .sp 0xFFFE ∧ formOf .ldSPHL = .ldSpHl ∧ ready.regs.hl = 0xC200 :=
  ⟨rfl, rfl, rfl⟩

theorem witness_StoreSpCompletes : formOf (.ldAtImm16SP 0xFFFF) = .stSp 0xFFFF := rfl

theorem witness_SpPlusDisplacementCompletes :
    formOf (.ldHLSPDisp 0x80) = .ldHlSp 0x80 ∧ formOf (.addSPDisp 0x7F) = .addSp 0x7F := ⟨rfl, rfl⟩

theorem witness_PushCompletes : formOf .pushAF = .push .af ∧ formOf .pushHL = .push .hl := ⟨rfl, rfl⟩

theorem witness_PopCompletes :
    formOf .popAF = .pop .af ∧ formOf .popDE = .pop .de ∧ read8 ready ready.regs.sp = .ok 0
      ∧ read8 ready (ready.regs.sp + 1) = .ok 0 :=
  ⟨rfl, rfl, rfl, rfl⟩

/-- SP = 0xFFFF: the two stack bytes are the last of HRAM. -/
theorem witness_PushThenPopRoundTrip :
    State.Inv { ready with regs := { ready.regs with sp := 0xFFFF } } ∧ formOf .pushBC = .push .bc
      ∧ formOf .popAF = .pop .af ∧ isRam ready.mem ((0xFFFF : Word) - 2) = true
      ∧ isRam ready.mem ((0xFFFF : Word) - 1) = true :=
  ⟨by decide, rfl, rfl, by decide, by decide⟩

theorem witness_AddCompletes :
    AluOperand ready .addAB .add 0xC0 ∧ AluOperand ready (.adcAImm 0xFF) .adc 0xFF ∧ AluOperand ready .addAAtHL .add 0 :=
  ⟨.inl ⟨.b, rfl, rfl⟩, .inr rfl, .inl ⟨.atHL, rfl, rfl⟩⟩

theorem witness_SubtractCompletes :
    AluOperand ready .subA .sub 0x99 ∧ AluOperand ready (.sbcAImm 0xFF) .sbc 0xFF ∧ AluOperand ready .cpAtHL .cp 0 :=
  ⟨.inl ⟨.a, rfl, rfl⟩, .inr rfl, .inl ⟨.atHL, rfl, rfl⟩⟩

theorem witness_LogicCompletes :
    AluOperand ready .andB .and 0xC0 ∧ AluOperand ready (.xorImm 0xFF) .xor 0xFF ∧ AluOperand ready .orAtHL .or 0 :=
  ⟨.inl ⟨.b, rfl, rfl⟩, .inr rfl, .inl ⟨.atHL, rfl, rfl⟩⟩

theorem witness_IncDecRegisterCompletes :
    (ready.regs.getSel .a = some 0x99 ∧ formOf .incA = .inc .a) ∧ ready.regs.getSel .e = some 0 ∧ formOf .decE = .dec .e :=
  ⟨⟨rfl, rfl⟩, rfl, rfl⟩

theorem witness_UpdateByteCompletes :
    read8 ready ready.regs.hl = .ok 0 ∧ byteUpdate ready 0 (formOf .incAtHL) = some 1
      ∧ byteUpdate ready 0 (formOf .decAtHL) = some 0xFF ∧ byteUpdate ready 0 (formOf .rlAtHL) = some 1
      ∧ byteUpdate ready 0 (formOf .res7AtHL) = some 0 ∧ byteUpdate ready 0 (formOf .set0AtHL) = some 1 :=
  ⟨rfl, by decide, by decide, by decide, by decide, by decide⟩

theorem witness_DaaAdjustsOrIsRefused :
    ready.params.flagModel = .full ∧ State.reset.params.flagModel ≠ .full := ⟨rfl, nofun⟩

theorem witness_AddThenDaaIsDecimalSum :
    99 < 100 ∧ ready.params.flagModel = .full ∧ ready.regs.a = BitVec.ofNat 8 (16 * (99 / 10) + 99 % 10) :=
  ⟨by decide, rfl, rfl⟩

theorem witness_AddHlCompletes : formOf .addHLSP = .addHl .sp ∧ formOf .addHLHL = .addHl .hl := ⟨rfl, rfl⟩

theorem witness_IncDecPairCompletes : formOf .incSP = .incPair .sp ∧ formOf .decBC = .decPair .bc := ⟨rfl, rfl⟩

theorem witness_AccRotateCompletes : formOf .rla = .rotA .rla ∧ formOf .rrca = .rotA .rrca := ⟨rfl, rfl⟩

theorem witness_CbRegisterCompletes :
    ready.regs.getSel .b = some 0xC0 ∧ formOf .swapB = .cb (.rot .swap .b) ∧ formOf .res7B = .cb (.res 7 .b)
      ∧ formOf .set0B = .cb (.set 0 .b) :=
  ⟨rfl, rfl, rfl, rfl⟩

theorem witness_BitTestCompletes :
    (formOf .bit0B = .cb (.bit 0 .b) ∧ get8 ready .b = .ok 0xC0)
      ∧ formOf .bit7AtHL = .cb (.bit 7 .atHL) ∧ get8 ready .atHL = .ok 0 :=
  ⟨⟨rfl, rfl⟩, rfl, rfl⟩

/-- The displacement at both ends: 0x0102 - 128 and 0x0102 + 127. -/
theorem witness_JumpCompletes :
    JumpsTo ready (formOf (.jpImm16 0xFFFF)) 0xFFFF ∧ JumpsTo ready (formOf (.jpZImm16 0x0200)) 0x0200
      ∧ JumpsTo ready (formOf .jpHL) 0xC200 ∧ JumpsTo ready (formOf (.jrDisp 0x80)) 0x0082
      ∧ JumpsTo ready (formOf (.jrCDisp 0x7F)) 0x0181 :=
  ⟨.inl rfl, .inr (.inl ⟨.z, rfl, rfl⟩), .inr (.inr (.inl ⟨rfl, rfl⟩)),
    .inr (.inr (.inr ⟨0x80, .inl rfl, by decide⟩)), .inr (.inr (.inr ⟨0x7F, .inr ⟨.c, rfl, rfl⟩, by decide⟩))⟩

/-- Z and C are set in `ready` and clear in `base`. -/
theorem witness_FailedConditionFallsThrough :
    (condition (formOf (.jpNZImm16 0)) = some .nz ∧ ready.regs.f.getLsbD 7 = true)
      ∧ (condition (formOf (.jrZDisp 0)) = some .z ∧ base.regs.f.getLsbD 7 = false)
      ∧ (condition (formOf (.callNCImm16 0)) = some .nc ∧ ready.regs.f.getLsbD 4 = true)
      ∧ condition (formOf .retC) = some .c ∧ base.regs.f.getLsbD 4 = false :=
  ⟨⟨rfl, rfl⟩, ⟨rfl, rfl⟩, ⟨rfl, rfl⟩, rfl, rfl⟩

theorem witness_CallCompletes :
    callTarget ready (formOf (.callImm16 0xFFFF)) = some (0xFFFF, 0x0103)
      ∧ callTarget ready (formOf (.callZImm16 0)) = some (0, 0x0103)
      ∧ callTarget ready (formOf .rst38) = some (0x0038, 0x0101) := by
  decide

theorem witness_ReturnCompletes :
    ∀ i ∈ [Instr.ret, .retC, .reti], dataRead16 ready (formOf i) = some ready.regs.sp
      ∧ (∀ p, formOf i ≠ .pop p) ∧ read8 ready ready.regs.sp = .ok 0 ∧ read8 ready (ready.regs.sp + 1) = .ok 0 := by
  intro i hi
  simp only [List.mem_cons, List.not_mem_nil, or_false] at hi
  obtain rfl | rfl | rfl := hi <;> exact ⟨rfl, nofun, rfl, rfl⟩

/-- A request is waiting in `asked`: the joypad's, whose bit is IE's bit 4. -/
def asked : State := { ready with irq := { base.irq with pending := pend 0 0 0 0 1, ie := 0x10 } }

theorem witness_HaltStopAndIllegalComplete :
    ready.irq.ime = false ∧ (∀ k, ¬Waiting ready k) ∧ asked.irq.ime = false ∧ Waiting asked .joypad :=
  ⟨rfl, fun k => by cases k <;> decide, rfl, by decide⟩

/-- HL and SP at the cartridge's end, 0x4000, and SP one below it, where the second stack byte is the one that faults. -/
theorem witness_FaultingReadEndsInstr :
    (dataRead { ready with regs := { ready.regs with h := 0x40 } } (formOf .addAAtHL) = some 0x4000
        ∧ read8 ready 0x4000 = .error (.unmappedRead 0x4000))
      ∧ dataRead16 { ready with regs := { ready.regs with sp := 0x4000 } } (formOf .popBC) = some 0x4000
      ∧ dataRead16 { ready with regs := { ready.regs with sp := 0x3FFF } } (formOf .ret) = some 0x3FFF
      ∧ read8 ready 0x3FFF = .ok 0 ∧ (0x3FFF : Word) + 1 = 0x4000 :=
  ⟨⟨rfl, rfl⟩, rfl, rfl, rfl, rfl⟩

theorem witness_OnlyTheirInstrsWriteSpImeHalted :
    (∃ t, exec .incSP ready = .next t ∧ t.regs.sp ≠ ready.regs.sp)
      ∧ (∃ t, exec .ei ready = .next t ∧ t.irq.ime ≠ ready.irq.ime)
      ∧ ∃ t, exec .halt ready = .next t ∧ t.halted ≠ ready.halted :=
  ⟨⟨_, rfl, by decide⟩, ⟨_, rfl, by decide⟩, ⟨_, rfl, by decide⟩⟩

/-- `ready` with an instruction's bytes at PC. -/
def holding (bytes : List Byte) : State := placeBytes ready 0x0100 bytes

theorem witness_StepRunsDecodedInstr :
    ∀ i ∈ [Instr.callImm16 0x1234, .bit7H, .stop, .nop], (holding (encode i)).fatal = none
      ∧ idles (interruptPhase (holding (encode i))) = false ∧ i.WellFormed ∧ supported (holding (encode i)).params i = true
      ∧ ∀ n b, (encode i)[n]? = some b → (i = .stop → n = 0) →
          read8 (readyState (holding (encode i))) ((readyState (holding (encode i))).regs.pc + BitVec.ofNat 16 n)
            = .ok b := by
  intro i hi
  simp only [List.mem_cons, List.not_mem_nil, or_false] at hi
  obtain rfl | rfl | rfl | rfl := hi <;> refine ⟨rfl, by decide, by decide, by decide, fun n b h _ => ?_⟩ <;>
    rcases n with _ | _ | _ | n <;> first | (cases h; rfl) | cases h

/-- `ready` at an address near the cartridge's end, 0x4000, with one byte there. -/
def atEnd (pc : Word) (op : Byte) : State := placeByte { ready with regs := { ready.regs with pc := pc } } pc op

theorem witness_FetchAndDecodeErrors :
    ((atEnd 0x4000 0).fatal = none ∧ idles (interruptPhase (atEnd 0x4000 0)) = false)
      ∧ read8 (readyState (atEnd 0x4000 0)) 0x4000 = .error (.unmappedRead 0x4000)
      ∧ (read8 (readyState (atEnd 0x3FFF 0xD3)) 0x3FFF = .ok 0xD3 ∧ (0xD3 : Byte) ≠ 0xCB
          ∧ ready.params.supportedBase.mem 0xD3 = false)
      ∧ (read8 (readyState (atEnd 0x3FFF 0xCB)) 0x3FFF = .ok 0xCB
          ∧ read8 (readyState (atEnd 0x3FFF 0xCB)) (0x3FFF + 1) = .error (.unmappedRead 0x4000))
      ∧ (read8 (readyState (atEnd 0x3FFE 0xCB)) (0x3FFE + 1) = .ok 0 ∧ ready.params.supportedCb.mem 0 = false)
      ∧ (read8 (readyState (atEnd 0x3FFF 0x3E)) 0x3FFF = .ok 0x3E ∧ ready.params.supportedBase.mem 0x3E = true
          ∧ 2 ≤ opcodeLength 0x3E ∧ read8 (readyState (atEnd 0x3FFF 0x3E)) (0x3FFF + 1) = .error (.unmappedRead 0x4000))
      ∧ read8 (readyState (atEnd 0x3FFE 0xC3)) 0x3FFE = .ok 0xC3 ∧ ready.params.supportedBase.mem 0xC3 = true
      ∧ opcodeLength 0xC3 = 3 ∧ read8 (readyState (atEnd 0x3FFE 0xC3)) (0x3FFE + 1) = .ok 0
      ∧ read8 (readyState (atEnd 0x3FFE 0xC3)) (0x3FFE + 2) = .error (.unmappedRead 0x4000) :=
  ⟨⟨rfl, by decide⟩, rfl, ⟨rfl, by decide, by decide⟩, ⟨rfl, rfl⟩, ⟨rfl, by decide⟩, ⟨rfl, by decide, by decide, rfl⟩, rfl,
    by decide, by decide, rfl, rfl⟩

theorem witness_StepExistsExactlyWithoutFatal :
    ready.fatal = none ∧ (ready.raise (.unimplemented .stop)).fatal = some (.unimplemented .stop)
      ∧ ∃ t, hostCall .displayStep (ready.raise (.unimplemented .stop)) = .next t :=
  ⟨rfl, rfl, _, rfl⟩

/-- The two ends of the source order: VBlank before all, and the joypad alone. -/
theorem witness_InterruptPhaseDispatchesLowest :
    (State.irq { asked with irq := { asked.irq with imePrev := true } }).imePrev = true ∧ Waiting asked .joypad
      ∧ (∀ j : Source, j.index < Source.joypad.index → ¬Waiting asked j)
      ∧ Waiting { asked with irq := { asked.irq with pending := pend 1 0 0 0 1, ie := 0x11 } } .vblank
      ∧ (∀ j : Source, ¬j.index < Source.vblank.index) ∧ ready.irq.imePrev = false ∧ ∀ k, ¬Waiting ready k :=
  ⟨rfl, by decide, fun j => by cases j <;> decide, by decide, fun j => by cases j <;> decide, rfl,
    fun k => by cases k <;> decide⟩

theorem witness_HaltedStepIdlesOrWakes :
    (State.fatal { ready with halted := true } = none ∧ ∀ k, ¬Waiting { ready with halted := true } k)
      ∧ Waiting { asked with halted := true } .joypad ∧ asked.irq.imePrev = false :=
  ⟨⟨rfl, fun k => by cases k <;> decide⟩, by decide, rfl⟩

/-- EI, then NOP, with the joypad's request waiting all along. -/
def enabling : State := placeBytes asked 0x0100 [0xFB, 0x00]

theorem witness_EiDelaysDeliveryByOneStep :
    (enabling.fatal = none ∧ enabling.halted = false ∧ enabling.irq.ime = false ∧ enabling.irq.imePrev = false)
      ∧ fetchInstr (readyState enabling) = .ok .ei
      ∧ ∃ t u, step enabling = .next t ∧ step t = .next u ∧ Waiting u .joypad
          ∧ ∀ j : Source, j.index < Source.joypad.index → ¬Waiting u j :=
  ⟨⟨rfl, rfl, rfl, rfl⟩, rfl, _, _, rfl, rfl, by decide, fun j => by cases j <;> decide⟩

/-- The largest cartridges that leave the two registers visible. -/
theorem witness_InterruptRegisters :
    (Stores.cartSize { base.mem with cartSize := 0xFF0E }) < 0xFF0F
      ∧ (Stores.cartSize { base.mem with cartSize := 0xFFFE }) < 0xFFFF := by
  decide

theorem witness_BootRomAndLatch :
    (Stores.cartSize { base.mem with cartSize := 0xFF4F }) < 0xFF50 ∧ (0x00FF : Word).toNat < 0x100
      ∧ booting.mem.bootEnabled = true ∧ ready.mem.bootEnabled = false ∧ (0x00FF : Word).toNat < ready.mem.cartSize
      ∧ (Stores.cartSize { base.mem with cartSize := 0 }) ≤ (0x0000 : Word).toNat := by
  decide

theorem witness_LcdRegisters :
    (Stores.cartSize { base.mem with cartSize := 0xFF3F }) < 0xFF40
      ∧ (Params.extendedVariant { base.params with extendedVariant := true }) = true
      ∧ 1 ∈ [1, 5, 6, 10, 11, 12, 13, 14, 15] ∧ 15 ∈ [1, 5, 6, 10, 11, 12, 13, 14, 15] ∧ 8 ∈ [8, 9]
      ∧ base.params.extendedVariant = false := by
  decide

/-- The last pixel of the last tile. -/
theorem witness_RenderDrawsTilePixels : picture.lcd.lcdc.getLsbD 4 = true ∧ 17 < 18 ∧ 19 < 20 ∧ 7 < 8 := by decide

/-- Blank video memory, and a picture that holds a black pixel. -/
def stained : State := { base with lcd := { base.lcd with lcdc := 0x10, fb := [(0, .black)] } }

/-- The render of a write to SCY on a blank video memory is white. -/
theorem blank_write_scy {s : State} (h : s.mem.cartSize < 0xFF40) (hv : s.mem.vram = []) (hf : s.lcd.flag 4 = true) :
    (write8 s (0xFF40 + BitVec.ofNat 16 2) 0).lcd.fb = [] := by
  have hf' : (s.setLcd { s.lcd with scy := 0 }).lcd.flag 4 = true := hf
  rw [write8_lcd h (by decide)]
  show (render (s.setLcd { s.lcd with scy := 0 })).lcd.fb = []
  rw [render, if_pos hf']
  show renderedFb s.mem.vram _ _ = []
  rw [hv, renderedFb_blank]

theorem witness_RenderProperties :
    base.lcd.lcdc.getLsbD 4 = false ∧ picture.lcd.lcdc.getLsbD 4 = true
      ∧ (write8 stained (0xFF40 + BitVec.ofNat 16 2) 0).lcd.fb ≠ stained.lcd.fb := by
  refine ⟨by decide, by decide, ?_⟩
  rw [blank_write_scy (by decide) rfl (by decide)]
  exact nofun

/-- The ends of the RAM ranges and of the mirror. -/
theorem witness_RamHoldsLastWrite :
    (ready.mem.cartSize < (0x8000 : Word).toNat ∧ 0x8000 ≤ (0x8000 : Word).toNat ∧ (0x9FFF : Word).toNat ≤ 0x9FFF
        ∧ 0xC000 ≤ (0xC000 : Word).toNat ∧ (0xDFFF : Word).toNat ≤ 0xDFFF ∧ 0xE000 ≤ (0xE000 : Word).toNat
        ∧ (0xFDFF : Word).toNat ≤ 0xFDFF ∧ 0xFF80 ≤ (0xFF80 : Word).toNat ∧ (0xFFFE : Word).toNat ≤ 0xFFFE)
      ∧ ready.Inv ∧ (isRam ready.mem 0x8000 = true ∧ isRam ready.mem 0x9FFF = true ∧ isRam ready.mem 0xC000 = true
        ∧ isRam ready.mem 0xFDFF = true ∧ isRam ready.mem 0xFF80 = true ∧ isRam ready.mem 0xFFFE = true)
      ∧ (Stores.cartSize { base.mem with cartSize := 0xBFFF }) < 0xC000 ∧ 0 ≤ 0x1DFF ∧ 0x1DFF ≤ 0x1DFF :=
  ⟨by decide, by decide, ⟨rfl, rfl, rfl, rfl, rfl, rfl⟩, by decide, by decide, by decide⟩

/-- The holes of rule R79 at their ends. -/
theorem witness_RomAndHoleAccesses :
    ((0x0000 : Word).toNat < ready.mem.cartSize ∧ (0x3FFF : Word).toNat < ready.mem.cartSize ∧ ready.mem.bootEnabled = false
        ∧ (0x8000 : Word).toNat < (Stores.cartSize { base.mem with cartSize := 0x8001 })
        ∧ (Stores.cartSize { base.mem with cartSize := 0xFEFF }) < 0xFF00)
      ∧ ((0x00FF : Word).toNat < 0x100 ∧ booting.mem.bootEnabled = true) ∧ (0x4000 : Word).toNat ≤ ready.mem.cartSize
      ∧ (Hole ready.mem 0x4001 ∧ Hole ready.mem 0x7FFF ∧ Hole ready.mem 0xA000 ∧ Hole ready.mem 0xBFFF)
      ∧ (Hole ready.mem 0xFE00 ∧ Hole ready.mem 0xFEFF ∧ Hole ready.mem 0xFF01 ∧ Hole ready.mem 0xFF0E)
      ∧ (Hole ready.mem 0xFF10 ∧ Hole ready.mem 0xFF3F ∧ Hole ready.mem 0xFF51 ∧ Hole ready.mem 0xFF7F)
      ∧ (0x4000 : Word).toNat = ready.mem.cartSize ∧ ¬((0x4000 : Word).toNat < 0x100 ∧ ready.mem.bootEnabled = true) := by
  refine ⟨?_, ?_, ?_, ⟨?_, ?_, ?_, ?_⟩, ⟨?_, ?_, ?_, ?_⟩, ⟨?_, ?_, ?_, ?_⟩, ?_, ?_⟩ <;> decide

/-- A boot image of the right length. -/
def bootImage : List Byte := List.replicate 256 0

theorem bootImage_length : bootImage.length = 256 := List.length_replicate ..

theorem witness_ConstructionState : ([] : List Byte).length ≠ 256 ∧ bootImage.length = 256 :=
  ⟨nofun, bootImage_length⟩

theorem witness_StepKeepsInv : ready.Inv ∧ ∃ t, step ready = .next t := ⟨by decide, _, rfl⟩

theorem witness_ResetHasInv :
    ∃ s, construct bootImage [0xC3] { vram := [1], wram := [], hram := [] } Params.default = .ok s :=
  ⟨_, if_pos bootImage_length⟩

theorem witness_HostCallsKeepImages :
    (∃ t, hostCall .cpuStep ready = .next t) ∧ (∃ t, hostCall .startFrame ready = .next t)
      ∧ (∃ t, hostCall .displayStep (ready.raise (.unimplemented .stop)) = .next t) ∧ ready.mem.bootEnabled = false
      ∧ (ready.raise (.unimplemented .stop)).fatal ≠ none :=
  ⟨⟨_, rfl⟩, ⟨_, rfl⟩, ⟨_, rfl⟩, rfl, nofun⟩

end Sys2Proof.Tests
end

section
/-! PROOFS. Fetch and decode inside a step (rules R100, R110, R366, R403): a well-formed instruction's bytes
decode to it, the outcome of `fetchBytes` stage by stage, and the two statements about what a step fetches. -/

open Sys2Proof Sys2Proof.Machine

namespace Sys2Proof

/-- Only the instructions with a 16-bit immediate need an argument: their word is split into bytes and joined again. -/
theorem decode_encode (i : Instr) (h : i.WellFormed) : decode (encode i) = .ok (i, []) := by
  cases i
  case prefixCb => cases h
  case illegal op => exact Laws.RoundTrip.illegal op h
  case ldBCImm16 | ldDEImm16 | ldHLImm16 | ldSPImm16 | ldAtImm16SP | ldAtImm16A | ldAAtImm16 | jpImm16 | jpNZImm16
      | jpZImm16 | jpNCImm16 | jpCImm16 | callImm16 | callNZImm16 | callZImm16 | callNCImm16 | callCImm16 =>
    exact congrArg (fun i => Except.ok (i, [])) (congrArg _ (joinBytes_hi_lo _))
  all_goals rfl

/-- The opcode 0x10 is STOP's alone. -/
theorem opcode_ne_stop {i : Instr} (hwf : i.WellFormed) (hi : i ≠ .stop) {op : Byte} {tail : List Byte}
    (he : encode i = op :: tail) : op ≠ 0x10 := by
  rintro rfl
  have hd := decode_encode i hwf
  rw [he] at hd
  injection hd with hd
  exact hi (congrArg Prod.fst hd).symm

end Sys2Proof

namespace Sys2Proof.Machine

/-- `n` bytes from address `a` on, lowest address first, or the first error: the operand fetch of `fetchBytes`
(`fetchBytes_of_base`). -/
def readBytes (s : State) (a : Word) : Nat → Except FatalError (List Byte)
  | 0 => .ok []
  | n + 1 => do
    let b ← read8 s a
    let bs ← readBytes s (a + 1) n
    return b :: bs

theorem readBytes_of_error {s : State} {a : Word} {n : Nat} {e : FatalError} (h : read8 s a = .error e) :
    readBytes s a (n + 1) = .error e := by
  rw [readBytes, h]; rfl

theorem readBytes_of_ok {s : State} {a : Word} {n : Nat} {b : Byte} (h : read8 s a = .ok b) :
    readBytes s a (n + 1) = (readBytes s (a + 1) n).map (b :: ·) := by
  rw [readBytes, h]; rfl

theorem add_ofNat_succ (a : Word) (n : Nat) : a + BitVec.ofNat 16 (n + 1) = a + 1 + BitVec.ofNat 16 n := by
  rw [Nat.add_comm, BitVec.ofNat_add, ← BitVec.add_assoc]; rfl

/-- Bytes that stand in memory from `a` on are read. -/
theorem readBytes_of_forall {s : State} {a : Word} {bs : List Byte}
    (h : ∀ n b, bs[n]? = some b → read8 s (a + BitVec.ofNat 16 n) = .ok b) : readBytes s a bs.length = .ok bs := by
  induction bs generalizing a with
  | nil => rfl
  | cons b bs ih =>
    have hb : read8 s a = .ok b := by simpa using h 0 b rfl
    have hbs : readBytes s (a + 1) bs.length = .ok bs := ih fun n c hc => by
      rw [← add_ofNat_succ]; exact h (n + 1) c hc
    rw [List.length_cons, readBytes_of_ok hb, hbs]; rfl

/-! The outcome of `fetchBytes`, in the order of rule R403 -/

theorem fetchBytes_of_opcode_error {s : State} {e : FatalError} (h : read8 s s.regs.pc = .error e) :
    fetchBytes s = .error e := by
  simp only [fetchBytes, h]

theorem fetchBytes_of_sub_error {s : State} {e : FatalError} (h0 : read8 s s.regs.pc = .ok 0xCB)
    (h1 : read8 s (s.regs.pc + 1) = .error e) : fetchBytes s = .error e := by
  simp only [fetchBytes, h0, h1, if_true]

/-- After 0xCB the sub-opcode alone is looked up (log 7). -/
theorem fetchBytes_of_cb {s : State} {sub : Byte} (h0 : read8 s s.regs.pc = .ok 0xCB)
    (h1 : read8 s (s.regs.pc + 1) = .ok sub) :
    fetchBytes s = if s.params.supportedCb.mem sub then .ok [0xCB, sub]
      else .error (.decode s.regs.pc 0xCB (some sub)) := by
  simp only [fetchBytes, h0, h1, if_true]

theorem fetchBytes_of_unsupported {s : State} {op : Byte} (h0 : read8 s s.regs.pc = .ok op) (hop : op ≠ 0xCB)
    (hs : s.params.supportedBase.mem op = false) : fetchBytes s = .error (.decode s.regs.pc op none) := by
  simp only [fetchBytes, h0, hop, hs, if_false, Bool.false_eq_true]

theorem operandCount_le_two {op : Byte} (hop : op ≠ 0xCB) : operandCount op ≤ 2 := by
  have := opcodeLength_cases op hop
  unfold operandCount
  split <;> omega

theorem operandCount_of_ne_stop {op : Byte} (h : op ≠ 0x10) : operandCount op = opcodeLength op - 1 := if_neg h

/-- Of a supported base opcode the operand bytes are read, the first error of them being the outcome. -/
theorem fetchBytes_of_base {s : State} {op : Byte} (h0 : read8 s s.regs.pc = .ok op) (hop : op ≠ 0xCB)
    (hs : s.params.supportedBase.mem op = true) :
    fetchBytes s = (readBytes s (s.regs.pc + 1) (operandCount op)).map (op :: ·) := by
  have hpc : s.regs.pc + 1 + 1 = s.regs.pc + 2 := BitVec.add_assoc ..
  have hn := operandCount_le_two hop
  simp only [fetchBytes, h0, hop, hs, if_true, if_false]
  generalize operandCount op = n at hn ⊢
  match n, hn with
  | 0, _ => rfl
  | 1, _ =>
    cases h1 : read8 s (s.regs.pc + 1) with
    | error e => rw [readBytes_of_error h1]; rfl
    | ok b1 => rw [readBytes_of_ok h1]; rfl
  | 2, _ =>
    cases h1 : read8 s (s.regs.pc + 1) with
    | error e => rw [readBytes_of_error h1]; rfl
    | ok b1 =>
      rw [readBytes_of_ok h1, ← hpc]
      cases h2 : read8 s (s.regs.pc + 1 + 1) with
      | error e => rw [readBytes_of_error h2]; rfl
      | ok b2 => rw [readBytes_of_ok h2]; rfl

/-- The bytes fetched where a well-formed supported instruction stands: all of them, of STOP the first (log 12). -/
theorem fetchBytes_of_instr {s : State} {i : Instr} (hwf : i.WellFormed) (hs : supported s.params i = true)
    (h : ∀ n b, (encode i)[n]? = some b → (i = .stop → n = 0) → read8 s (s.regs.pc + BitVec.ofNat 16 n) = .ok b) :
    fetchBytes s = .ok (if i = .stop then [0x10] else encode i) := by
  have at_pc {b : Byte} (hb : (encode i)[0]? = some b) : read8 s s.regs.pc = .ok b := by
    simpa using h 0 b hb fun _ => rfl
  by_cases hi : i = .stop
  · subst hi
    rw [fetchBytes_of_base (at_pc rfl) (by decide) hs]; rfl
  rw [if_neg hi]
  obtain ⟨sub, he, hk⟩ | ⟨op, tail, he, hop, hk, hlen, -⟩ := encode_shape i hwf
  · have hsub : s.params.supportedCb.mem sub = true := by rwa [supported, hk] at hs
    have h1 : read8 s (s.regs.pc + 1) = .ok sub := h 1 sub (by rw [he]; rfl) fun hc => absurd hc hi
    rw [fetchBytes_of_cb (at_pc (by rw [he]; rfl)) h1, if_pos hsub, he]
  · have hbase : s.params.supportedBase.mem op = true := by rwa [supported, hk] at hs
    have htail : readBytes s (s.regs.pc + 1) tail.length = .ok tail := readBytes_of_forall fun n b hb => by
      rw [← add_ofNat_succ]; exact h (n + 1) b (by rw [he]; exact hb) fun hc => absurd hc hi
    rw [fetchBytes_of_base (at_pc (by rw [he]; rfl)) hop hbase, operandCount_of_ne_stop (opcode_ne_stop hwf hi he),
      ← hlen, htail, he]; rfl

/-! A step through its fetch -/

theorem step_of_fetchBytes_error {s : State} {e : FatalError} (hf : s.fatal = none)
    (hi : idles (interruptPhase s) = false) (h : fetchBytes (readyState s) = .error e) :
    step s = .next ((readyState s).raise e) := by
  rw [step_of_runs hf hi, runInstr, fetchInstr, h]

theorem step_of_fetchBytes_ok {s : State} {i : Instr} {bytes rest : List Byte} (hf : s.fatal = none)
    (hi : idles (interruptPhase s) = false) (h : fetchBytes (readyState s) = .ok bytes)
    (hd : decode bytes = .ok (i, rest)) : step s = exec i (readyState s) := by
  rw [step_of_runs hf hi, runInstr, fetchInstr, h]
  simp only [hd]

end Sys2Proof.Machine

namespace Sys2Proof.Proofs

/-- Settles O44: each clause is one stage of `fetchBytes`, carried to the step. -/
theorem fetchAndDecodeErrors : Obligations.FetchAndDecodeErrors := by
  unfold Obligations.FetchAndDecodeErrors
  intro s op sub b1 e hf hi r
  have fails {e : FatalError} : fetchBytes r = .error e → step s = .next (r.raise e) := step_of_fetchBytes_error hf hi
  rw [← readyState_params s]
  refine ⟨fun h0 => ?_, fun h0 hop hs => ?_, fun h0 h1 => ?_, fun h0 h1 hs => ?_, fun h0 hop h10 hs hlen h1 => ?_,
    fun h0 hop hs hlen h1 h2 => ?_⟩ <;> apply fails
  · exact fetchBytes_of_opcode_error h0
  · exact fetchBytes_of_unsupported h0 hop hs
  · exact fetchBytes_of_sub_error h0 h1
  · rw [fetchBytes_of_cb h0 h1, hs]; rfl
  · obtain ⟨n, hn⟩ : ∃ n, operandCount op = n + 1 := ⟨opcodeLength op - 2, by rw [operandCount_of_ne_stop h10]; omega⟩
    rw [fetchBytes_of_base h0 hop hs, hn, readBytes_of_error h1]; rfl
  · have h10 : op ≠ 0x10 := by rintro rfl; exact absurd hlen (by decide)
    have h2' : read8 r (r.regs.pc + 1 + 1) = .error e := by rw [BitVec.add_assoc]; exact h2
    rw [fetchBytes_of_base h0 hop hs, operandCount_of_ne_stop h10, hlen, readBytes_of_ok h1, readBytes_of_error h2']; rfl

/-- Settles O43: the fetch finds the instruction's bytes, which decode to it; STOP's first byte alone decodes to STOP. -/
theorem stepRunsDecodedInstr : Obligations.StepRunsDecodedInstr := by
  unfold Obligations.StepRunsDecodedInstr
  intro s i hf hidle hwf hs h
  have hbytes := fetchBytes_of_instr hwf (by rwa [readyState_params]) h
  by_cases hi : i = .stop
  · rw [if_pos hi] at hbytes
    subst hi
    exact step_of_fetchBytes_ok hf hidle hbytes rfl
  · rw [if_neg hi] at hbytes
    exact step_of_fetchBytes_ok hf hidle hbytes (decode_encode i hwf)

end Sys2Proof.Proofs
end

section
/-! PROOFS. The state: what a step and a host call keep (rules R36 to R43, R401, R470), interrupt delivery
(rules R412 to R414), and the instructions that write registers and flags alone. -/

open Sys2Proof Sys2Proof.Machine

namespace Sys2Proof.Machine

/-! What every part of a step keeps -/

/-- What no part of a step changes from `s` to `t`, and what it changes in one direction only: the parameters, the
images, the boot latch, the cycle counter, LY and the state invariant. -/
structure StepKeeps (s t : State) : Prop where
  params : t.params = s.params
  boot : t.mem.boot = s.mem.boot
  cart : t.mem.cart = s.mem.cart
  cartSize : t.mem.cartSize = s.mem.cartSize
  bootOff : s.mem.bootEnabled = false → t.mem.bootEnabled = false
  cycles : s.cycles ≤ t.cycles
  ly : t.lcd.ly = s.lcd.ly
  inv : s.Inv → t.Inv

namespace StepKeeps

theorem refl (s : State) : StepKeeps s s := ⟨rfl, rfl, rfl, rfl, id, Nat.le_refl _, rfl, id⟩

theorem trans {s t u : State} (h : StepKeeps s t) (h' : StepKeeps t u) : StepKeeps s u where
  params := h'.params.trans h.params
  boot := h'.boot.trans h.boot
  cart := h'.cart.trans h.cart
  cartSize := h'.cartSize.trans h.cartSize
  bootOff := h'.bootOff ∘ h.bootOff
  cycles := h.cycles.trans h'.cycles
  ly := h'.ly.trans h.ly
  inv := h'.inv ∘ h.inv

/-- Only the stores, the display, the parameters and the cycles count. -/
theorem congr {s u t : State} (h : StepKeeps s u) (hm : t.mem = u.mem) (hl : t.lcd = u.lcd) (hp : t.params = s.params)
    (hc : s.cycles ≤ t.cycles) : StepKeeps s t where
  params := hp
  boot := hm ▸ h.boot
  cart := hm ▸ h.cart
  cartSize := hm ▸ h.cartSize
  bootOff := hm ▸ h.bootOff
  cycles := hc
  ly := hl ▸ h.ly
  inv := by simpa only [State.Inv, hm, hl] using h.inv

theorem write8 (s : State) (a : Word) (v : Byte) : StepKeeps s (write8 s a v) where
  params := write8_params ..
  boot := write8_boot ..
  cart := write8_cart ..
  cartSize := write8_cartSize ..
  bootOff := write8_bootEnabled s a v
  cycles := (write8_cycles ..).ge
  ly := write8_ly ..
  inv := write8_inv s a v

theorem write16 (s : State) (a w : Word) : StepKeeps s (write16 s a w) := (write8 ..).trans (write8 ..)

theorem raise (s : State) (e : FatalError) : StepKeeps s (s.raise e) := (refl s).congr rfl rfl rfl (Nat.le_refl _)

/-- An instruction that completes writes the stores and the display through the bus alone. -/
theorem of_ran {f : Form} {s u t : State} (h : Ran f s u t) : StepKeeps s t := by
  have hu : StepKeeps s u := by
    obtain rfl | ⟨a, v, rfl⟩ | ⟨a, w, rfl⟩ := h.path
    · exact refl _
    · exact write8 ..
    · exact write16 ..
  exact hu.congr h.mem h.lcd h.params h.cycles

theorem dispatch (s : State) (k : Source) : StepKeeps s (dispatch s k) := by
  rw [Machine.dispatch, push16_eq]
  exact (write16 s (s.regs.sp - 2) s.regs.pc).congr rfl rfl (by simp) (by simp)

end StepKeeps

theorem exec_keeps {i : Instr} {s t : State} (h : exec i s = .next t) : StepKeeps s t := by
  obtain ⟨t', ht', ⟨e, rfl⟩ | ⟨u, hu⟩⟩ := exec_outcome i s <;> obtain rfl := next_inj (h.symm.trans ht')
  · exact .raise s e
  · exact .of_ran hu

/-! Delivery -/

/-- With `ime_prev` set and `k` the first eligible source, `k` is dispatched once the counters that `DELIVERY` names
have gone down by one (rules R412, R413). -/
theorem deliver_of_filter {s : State} {k : Source} {rest : List Source} (hprev : s.irq.imePrev = true)
    (hl : Source.all.filter (eligible s) = k :: rest) :
    ∃ p : Pending,
      (∀ j, p.count j =
        if j = k ∨ (s.params.delivery = .consumeAll ∧ Waiting s j) then s.irq.pending.count j - 1
        else s.irq.pending.count j)
      ∧ deliver s = dispatch (s.setIrq { s.irq with pending := p }) k := by
  cases hd : s.params.delivery with
  | onePerStep =>
    have hdel : deliver s = dispatch (consume s k) k := by simp only [deliver, hprev, hl, hd, if_true]
    refine ⟨(consume s k).irq.pending, fun j => ?_, hdel⟩
    simpa using consume_count s k j
  | consumeAll =>
    have hdel : deliver s = dispatch ((k :: rest).foldl consume s) k := by
      simp only [deliver, hprev, hl, hd, if_true]
    have hmem (j : Source) : j ∈ k :: rest ↔ Waiting s j := by
      have hall : j ∈ Source.all := by cases j <;> decide
      rw [← hl, List.mem_filter, and_iff_right hall, eligible_iff]
    have hk : Waiting s k := (hmem k).1 List.mem_cons_self
    have hnodup : (k :: rest).Nodup := hl ▸ List.Nodup.filter _ (by decide)
    obtain ⟨p, hp, hcount⟩ := foldl_consume (k :: rest) s hnodup
    refine ⟨p, fun j => ?_, hdel.trans (congrArg (dispatch · k) hp)⟩
    have hj : j ∈ k :: rest ↔ j = k ∨ Waiting s j := by
      rw [hmem, or_iff_right_of_imp (fun h : j = k => h ▸ hk)]
    simp only [hcount, hj, true_and]

/-- Without `ime_prev` or a waiting source nothing is delivered (rule R412). -/
theorem deliver_of_none {s : State} (h : s.irq.imePrev = false ∨ ∀ k, ¬Waiting s k) : deliver s = s := by
  unfold deliver
  split
  · next hprev =>
    have hnone := h.resolve_left (by simp [hprev])
    have hl : Source.all.filter (eligible s) = [] :=
      List.filter_eq_nil_iff.2 fun j _ hj => hnone j ((eligible_iff s j).1 hj)
    rw [hl]
  · rfl

/-- Delivery does nothing, or takes one interrupt after moving the pending counters. -/
theorem deliver_cases (s : State) :
    deliver s = s ∨ ∃ p k, deliver s = dispatch (s.setIrq { s.irq with pending := p }) k := by
  by_cases hprev : s.irq.imePrev = true
  · cases hl : Source.all.filter (eligible s) with
    | nil => exact .inl (by rw [deliver, hl, ite_self])
    | cons k rest =>
      obtain ⟨p, -, hp⟩ := deliver_of_filter hprev hl
      exact .inr ⟨p, k, hp⟩
  · exact .inl (deliver_of_none (.inl (by simpa using hprev)))

theorem deliver_keeps (s : State) : StepKeeps s (deliver s) := by
  obtain h | ⟨p, k, h⟩ := deliver_cases s <;> rw [h]
  · exact .refl s
  · have hp : StepKeeps s (s.setIrq { s.irq with pending := p }) :=
      (StepKeeps.refl s).congr rfl rfl rfl (Nat.le_refl _)
    exact hp.trans (.dispatch ..)

theorem interruptPhase_keeps (s : State) : StepKeeps s (interruptPhase s) := by
  have h := deliver_keeps { s with events := [] }
  exact ⟨h.params, h.boot, h.cart, h.cartSize, h.bootOff, h.cycles, h.ly, h.inv⟩

/-! The outcome of a step -/

/-- Fetching and running an instruction raises an error of the fetch, or is `exec` of an instruction. -/
theorem runInstr_cases (s : State) : (∃ e, runInstr s = .next (s.raise e)) ∨ ∃ i, runInstr s = exec i s := by
  cases h : fetchInstr s with
  | error e => exact .inl ⟨e, by rw [runInstr, h]⟩
  | ok i => exact .inr ⟨i, by rw [runInstr, h]⟩

/-- With the mark `fatal` there is no step (rule R401). -/
theorem step_of_fatal {s : State} {e : FatalError} (h : s.fatal = some e) : step s = .fault (.stopped e) := by
  simp only [step, h]

/-- Without the mark a step idles, fails in its fetch or runs an instruction (rule R110). -/
theorem step_cases {s : State} (h : s.fatal = none) :
    step s = .next (idle (interruptPhase s)) ∨ (∃ e, step s = .next ((readyState s).raise e))
      ∨ ∃ i, step s = exec i (readyState s) := by
  cases hi : idles (interruptPhase s) with
  | true => exact .inl (by simp only [step, h, hi, if_true])
  | false => rw [step_of_runs h hi]; exact .inr (runInstr_cases _)

/-- A step that is taken found no mark. -/
theorem fatal_of_step_next {s t : State} (h : step s = .next t) : s.fatal = none := by
  cases hf : s.fatal with
  | none => rfl
  | some e => rw [step_of_fatal hf] at h; cases h

theorem step_keeps {s t : State} (h : step s = .next t) : StepKeeps s t := by
  have hphase := interruptPhase_keeps s
  have hready : StepKeeps s (readyState s) := hphase.congr rfl rfl hphase.params hphase.cycles
  obtain hs | ⟨e, hs⟩ | ⟨i, hs⟩ := step_cases (fatal_of_step_next h) <;> rw [hs] at h
  · obtain rfl := next_inj h
    exact hphase.congr rfl rfl hphase.params (hphase.cycles.trans (Nat.le_add_right ..))
  · obtain rfl := next_inj h
    exact hready.trans (.raise ..)
  · exact hready.trans (exec_keeps h)

/-- The display's calls move LY alone (rules R460, R461). -/
theorem hostCall_display {c : HostCall} {s t : State} (hc : c ≠ .cpuStep) (h : hostCall c s = .next t) :
    ∃ v, t = s.setLcd { s.lcd with ly := v } := by
  cases c with
  | cpuStep => exact absurd rfl hc
  | startFrame => exact ⟨0, (next_inj h).symm⟩
  | displayStep =>
    obtain rfl := next_inj h
    unfold displayStep
    split
    · exact ⟨_, rfl⟩
    · exact ⟨s.lcd.ly, rfl⟩

/-! Construction -/

theorem Memory.wf_ofBytes {bs : List Byte} {size : Nat} (h : bs.length ≤ size) :
    Memory.wf Memory.unlisted size (Memory.ofBytes bs) = true :=
  Memory.wfFrom_ofBytesFrom bs 0 size (by omega)

/-! Instructions on registers and flags -/

/-- EI, DI, RETI and HALT are alone in their shapes. -/
theorem eq_of_formOf_eq {i j : Instr} (hj : j = .ei ∨ j = .di ∨ j = .reti ∨ j = .halt) (h : formOf i = formOf j) :
    i = j := by
  obtain rfl | rfl | rfl | rfl := hj <;> cases i <;> cases h <;> rfl

@[simp] theorem Regs.setSel_flags (r : Regs) (sel : Sel) (v : Byte) : (r.setSel sel v).flags = r.flags := by
  cases sel <;> rfl

@[simp] theorem Regs.setSel_pc (r : Regs) (sel : Sel) (v : Byte) : (r.setSel sel v).pc = r.pc := by
  cases sel <;> rfl

@[simp] theorem Regs.setStackPair_sp (r : Regs) (p : StackPair) (w : Word) : (r.setStackPair p w).sp = r.sp := by
  cases p <;> rfl

@[simp] theorem Regs.setStackPair_pc (r : Regs) (p : StackPair) (w : Word) : (r.setStackPair p w).pc = r.pc := by
  cases p <;> rfl

/-- Setting a stack pair leaves the others. -/
theorem Regs.stackPair_setStackPair_other (r : Regs) {p q : StackPair} (w : Word) (h : q ≠ p) :
    (r.setStackPair p w).stackPair q = r.stackPair q := by
  cases p <;> cases q <;> first | rfl | exact absurd rfl h

/-- An instruction that puts a register file `r` with the old flags in place, then writes Z, C, H and N. -/
theorem exec_of_finish_flags {i : Instr} {s : State} {r : Regs} {z c h n : Bool}
    (he : exec i s = finish ((((s.setRegs r).setZ z).setC c).setHN h n) i.opKey) (hf : r.flags = s.regs.flags)
    (hpc : r.pc = s.regs.pc) :
    ∃ t, exec i s = .next t
      ∧ t.regs = { r with flags := t.regs.flags, pc := s.regs.pc + BitVec.ofNat 16 i.opKey.length }
      ∧ FlagsWritten s.params s.regs.flags t.regs.flags z c h n ∧ RanOnRegisters i s t := by
  refine ⟨_, he, ?_, ⟨by simp [advance_eq], by simp [advance_eq], ?_⟩, ran_of_sameBus (by simp [SameBus]) (by simp)⟩
  · obtain ⟨g, hg⟩ := setHN_regs (((s.setRegs r).setZ z).setC c) h n
    simp only [advance_eq, hg]
    rw [← hpc]; rfl
  · exact hnWritten_setHN (by simp) (by simp [hf]) (by simp [hf])

/-- The `alu` operations on either kind of operand. -/
theorem exec_of_aluOperand {i : Instr} {op : Alu} {v : Byte} {s : State} (h : AluOperand s i op v) :
    exec i s = .next (advance (applyAlu s op v) i.opKey true) := by
  obtain ⟨src, hi, hv⟩ | hi := h
  · rw [exec_of_form hi]
    simp only [runForm, aluSel, hv, attempt_ok, finish]
  · rw [exec_of_form hi]; rfl

/-- Writing C as it was changes nothing. -/
theorem State.setC_of_eq {s : State} {c : Bool} (h : s.regs.flags.c = c) : s.setC c = s := by
  subst h; rfl

/-- INC r, its flags in numbers (rule R268). -/
theorem exec_of_inc {i : Instr} {r : Sel} {v : Byte} {s : State} (hv : s.regs.getSel r = some v)
    (hi : formOf i = .inc r) :
    exec i s = finish ((((s.setRegs (s.regs.setSel r (v + 1))).setZ (decide (v.toNat = 255))).setC s.regs.flags.c).setHN
      (decide (v.toNat % 16 = 15)) false) i.opKey := by
  have hbits : ∀ v : Byte, (v + 1 = 0 ↔ v.toNat = 255) ∧ (v &&& 0x0F = 0x0F ↔ v.toNat % 16 = 15) := by decide
  rw [exec_of_form hi, State.setC_of_eq (by simp)]
  simp only [runForm, incSel, incFlags, get8_of_getSel hv, attempt_ok, set8_reg s _ (getSel_ne_atHL hv), hbits]

/-- DEC r, its flags in numbers (rule R270). -/
theorem exec_of_dec {i : Instr} {r : Sel} {v : Byte} {s : State} (hv : s.regs.getSel r = some v)
    (hi : formOf i = .dec r) :
    exec i s = finish ((((s.setRegs (s.regs.setSel r (v - 1))).setZ (decide (v.toNat = 1))).setC s.regs.flags.c).setHN
      (decide (v.toNat % 16 = 0)) true) i.opKey := by
  have hbits : ∀ v : Byte, (v - 1 = 0 ↔ v.toNat = 1) ∧ (v &&& 0x0F = 0x00 ↔ v.toNat % 16 = 0) := by decide
  rw [exec_of_form hi, State.setC_of_eq (by simp)]
  simp only [runForm, decSel, decFlags, get8_of_getSel hv, attempt_ok, set8_reg s _ (getSel_ne_atHL hv), hbits]

/-- POP with both bytes readable (rules R105, R235). -/
theorem exec_of_pop {i : Instr} {p : StackPair} {s : State} {lo hi : Byte} (hi' : formOf i = .pop p)
    (hlo : read8 s s.regs.sp = .ok lo) (hhi : read8 s (s.regs.sp + 1) = .ok hi) :
    exec i s = finish (s.setRegs ({ s.regs with sp := s.regs.sp + 2 }.setStackPair p (joinBytes hi lo))) i.opKey := by
  rw [exec_of_form hi', runForm, popPair, pop16_ok _ hlo hhi]; rfl

/-- RLCA, RRCA, RLA and RRA in the arithmetic of the whole byte (rules R300 to R303). -/
theorem exec_of_rotA {i : Instr} {op : AccRot} {s : State} (hi : formOf i = .rotA op) :
    exec i s = finish ((((s.setRegs { s.regs with a := (rotated op.asCb s.regs.a s.regs.flags.c).1 }).setZ
      (accZ s.params (rotated op.asCb s.regs.a s.regs.flags.c).1)).setC
      (rotated op.asCb s.regs.a s.regs.flags.c).2).setHN false false) i.opKey := by
  obtain ⟨hres, hout⟩ := CbRot.eval_eq_rotated op.asCb s.regs.flags.c s.regs.a
  rw [exec_of_form hi, runForm, accRotate, AccRot.eval_asCb, ← hres, ← hout]

theorem accZ_eq (p : Params) (v : Byte) : accZ p v = (decide (p.accRotateZ = .zeroRule) && decide (v = 0)) := by
  unfold accZ; cases p.accRotateZ <;> simp

/-- ADD and ADC in numbers (rule R250): one sum, to which ADC adds the carry flag. -/
theorem Alu.eval_add {op : Alu} (h : op = .add ∨ op = .adc) (a v : Byte) (c : Bool) :
    op.eval a v c =
      let cin := (decide (op = .adc) && c).toNat
      { res := BitVec.ofNat 8 (a.toNat + v.toNat + cin), n := false
        h := decide (15 < a.toNat % 16 + v.toNat % 16 + cin), c := decide (255 < a.toNat + v.toNat + cin) } := by
  obtain rfl | rfl := h <;> rfl

end Sys2Proof.Machine

namespace Sys2Proof.Proofs

/-- Settles O58: every part of a step keeps the invariant. -/
theorem stepKeepsInv : Obligations.StepKeepsInv := by
  unfold Obligations.StepKeepsInv
  exact fun s t hs h => (step_keeps h).inv hs

/-- Settles O60: a CPU step by `StepKeeps`, and the display's calls move LY alone. -/
theorem hostCallsKeepImages : Obligations.HostCallsKeepImages := by
  unfold Obligations.HostCallsKeepImages
  intro c s t h
  by_cases hc : c = .cpuStep
  · subst hc
    obtain ⟨hparams, hboot, hcart, hsize, hoff, hcycles, hly, -⟩ := step_keeps h
    exact ⟨hparams, hboot, hcart, hsize, hoff, fun hf => absurd (fatal_of_step_next h) hf, hcycles,
      fun hne => absurd rfl hne, fun _ => hly⟩
  · obtain ⟨v, rfl⟩ := hostCall_display hc h
    exact ⟨rfl, rfl, rfl, rfl, id, fun _ => rfl, Nat.le_refl _, fun _ => rfl, fun h => absurd h hc⟩

/-- Settles O45: the case split of `step`, and the display's calls leave the mark. -/
theorem stepExistsExactlyWithoutFatal : Obligations.StepExistsExactlyWithoutFatal := by
  unfold Obligations.StepExistsExactlyWithoutFatal
  intro s
  refine ⟨fun e => step_of_fatal, fun hf => ?_, fun c e t hf h => ?_⟩
  · obtain hs | ⟨e, hs⟩ | ⟨i, hs⟩ := step_cases hf
    · exact ⟨_, hs⟩
    · exact ⟨_, hs⟩
    · obtain ⟨t, ht, -⟩ := exec_outcome i (readyState s)
      exact ⟨t, hs.trans ht⟩
  · have hc : c ≠ .cpuStep := by
      rintro rfl
      have := fatal_of_step_next h
      simp [hf] at this
    obtain ⟨v, rfl⟩ := hostCall_display hc h
    exact hf

/-- Settles O42: the frame of `exec_outcome`, and the shapes EI, DI, RETI and HALT have one instruction each. -/
theorem onlyTheirInstrsWriteSpImeHalted : Obligations.OnlyTheirInstrsWriteSpImeHalted := by
  unfold Obligations.OnlyTheirInstrsWriteSpImeHalted
  intro i s t h
  obtain ⟨t', ht', ⟨e, rfl⟩ | ⟨u, hu⟩⟩ := exec_outcome i s <;> obtain rfl := next_inj (h.symm.trans ht')
  · exact ⟨absurd rfl, absurd rfl, absurd rfl, rfl⟩
  · refine ⟨fun hsp => ?_, fun hime => ?_, fun hhalt => ?_, hu.imePrev⟩
    · by_contra hw
      exact hsp (hu.sp (by simpa using hw))
    · by_contra! hi
      obtain ⟨hei, hdi, hreti⟩ := hi
      exact hime (hu.ime (mt (eq_of_formOf_eq (.inl rfl)) hei) (mt (eq_of_formOf_eq (.inr (.inl rfl))) hdi)
        (mt (eq_of_formOf_eq (.inr (.inr (.inl rfl)))) hreti))
    · by_contra hi
      exact hhalt (hu.halted (mt (eq_of_formOf_eq (.inr (.inr (.inr rfl)))) hi))

/-- Settles O46: the lowest waiting source is the first eligible one, and `dispatch_eq` says what taking it does. -/
theorem interruptPhaseDispatchesLowest : Obligations.InterruptPhaseDispatchesLowest := by
  unfold Obligations.InterruptPhaseDispatchesLowest
  intro s
  refine ⟨fun k hprev hk hmin => ⟨by cases k <;> rfl, ?_⟩, fun h => ?_⟩
  · obtain ⟨rest, hl⟩ := first_eligible s k hk hmin
    obtain ⟨p, hcount, hp⟩ := deliver_of_filter (s := { s with events := [] }) hprev hl
    refine ⟨p, hcount, ?_⟩
    rw [interruptPhase, hp, dispatch_eq]
    rfl
  · rw [interruptPhase, deliver_of_none (s := { s with events := [] }) h]
    rfl

/-- Settles O59: the reset state by evaluation, a constructed one by the sizes of its images. -/
theorem resetHasInv : Obligations.ResetHasInv := by
  unfold Obligations.ResetHasInv
  refine ⟨by decide, fun boot cart ram p s h => ?_⟩
  unfold construct at h
  split at h
  · next hboot =>
    obtain rfl := Except.ok.inj h
    have hlcd : State.reset.lcd.wf = true := by decide
    refine ⟨?_, hlcd⟩
    simp only [Stores.wf, Bool.and_eq_true]
    have hram (n : Nat) (bs : List Byte) : Memory.wf Memory.unlisted n (Memory.ofBytes (bs.take n)) = true :=
      Memory.wf_ofBytes (List.length_take_le ..)
    exact ⟨⟨⟨⟨Memory.wf_ofBytes hboot.le, Memory.wf_ofBytes (Nat.le_refl _)⟩, hram ..⟩, hram ..⟩, hram ..⟩
  · cases h

/-- Settles O19: a pop of two readable bytes sets the pair in the register file with SP moved. -/
theorem popCompletes : Obligations.PopCompletes := by
  unfold Obligations.PopCompletes
  intro i p s lo hi hform hlo hhi
  have hlen : i.opKey.length = 1 := length_of_form hform nofun
  refine ⟨_, exec_of_pop hform hlo hhi, by simp [advance_eq], by simp [advance_eq, hlen], ?_, fun q hq => ?_,
    ran_of_sameBus (by simp [SameBus]) (by simp), by simp [advance_eq]⟩
  · exact Regs.stackPair_set { s.regs with sp := s.regs.sp + 2 } p lo hi
  · exact Regs.stackPair_setStackPair_other { s.regs with sp := s.regs.sp + 2 } _ hq

/-- Settles O21: `applyAlu_spec` with the result of ADD and ADC, whose sum is exact in `add8`. -/
theorem addCompletes : Obligations.AddCompletes := by
  unfold Obligations.AddCompletes
  intro i op v s hop hv
  obtain ⟨hbus, hcycles, ha, hflags, hregs⟩ := applyAlu_spec s op v
  have hwrites : op.writesA = true := by obtain rfl | rfl := hop <;> rfl
  have hzero (n : Nat) : BitVec.ofNat 8 n = 0 ↔ n % 256 = 0 := by rw [← BitVec.toNat_inj, BitVec.toNat_ofNat]; rfl
  simp only [hwrites, if_true, Alu.eval_add hop, hzero] at ha hflags
  refine ⟨_, exec_of_aluOperand hv, ⟨?_, hflags⟩, ?_, ran_of_sameBus hbus hcycles⟩
  · exact (congrArg BitVec.toNat ha).trans (BitVec.toNat_ofNat ..)
  · rw [advance_eq, hregs]

/-- Settles O24: both are a register write and flags, whose bits are the arithmetic's. -/
theorem incDecRegisterCompletes : Obligations.IncDecRegisterCompletes := by
  unfold Obligations.IncDecRegisterCompletes
  intro i r v s hv
  refine ⟨fun hi => ?_, fun hi => ?_⟩
  · have hlen : i.opKey.length = 1 := length_of_form hi nofun
    have h := exec_of_finish_flags (exec_of_inc hv hi) (Regs.setSel_flags ..) (Regs.setSel_pc ..)
    rwa [hlen] at h
  · have hlen : i.opKey.length = 1 := length_of_form hi nofun
    have h := exec_of_finish_flags (exec_of_dec hv hi) (Regs.setSel_flags ..) (Regs.setSel_pc ..)
    rwa [hlen] at h

/-- Settles O31: the bit-level rotates are the arithmetic ones. -/
theorem accRotateCompletes : Obligations.AccRotateCompletes := by
  unfold Obligations.AccRotateCompletes
  intro i op s hi
  have hlen : i.opKey.length = 1 := length_of_form hi nofun
  obtain ⟨t, ht, hregs, hflags, hran⟩ := exec_of_finish_flags (exec_of_rotA hi) rfl rfl
  have ha : t.regs.a = (rotated op.asCb s.regs.a s.regs.flags.c).1 := congrArg Regs.a hregs
  rw [hlen] at hregs
  rw [accZ_eq] at hflags
  rw [← ha] at hregs hflags
  exact ⟨t, ht, ha, hflags, hregs, hran⟩

end Sys2Proof.Proofs
end

section
/-! PROOFS. Memory: the routes of the bus and what an access does on each (rules R60 to R72), and what an instruction
leaves of memory: the stores it makes, the faults of its reads, and everything else (rules R73 to R75, R105, R402). -/

open Sys2Proof Sys2Proof.Machine

namespace Sys2Proof.Machine

/-! Where each address goes: above the cartridge, by its range alone (rule R60) -/

section Routes

variable {m : Stores} {a : Word}

theorem route_boot (h : a.toNat < 0x100 ∧ m.bootEnabled = true) : route m a = .boot := if_pos h

theorem route_cart (hb : ¬(a.toNat < 0x100 ∧ m.bootEnabled = true)) (hc : a.toNat ≤ m.cartSize) :
    route m a = .cart := by
  rw [route, if_neg hb, if_pos hc]

theorem route_vram (hc : m.cartSize < a.toNat) (hlo : 0x8000 ≤ a.toNat) (hhi : a.toNat ≤ 0x9FFF) :
    route m a = .vram := by
  simp (disch := omega) only [route, if_pos, if_neg]

theorem route_wram (hc : m.cartSize < a.toNat) (hlo : 0xC000 ≤ a.toNat) (hhi : a.toNat ≤ 0xDFFF) :
    route m a = .wram := by
  simp (disch := omega) only [route, if_pos, if_neg]

theorem route_wramMirror (hc : m.cartSize < a.toNat) (hlo : 0xE000 ≤ a.toNat) (hhi : a.toNat ≤ 0xFDFF) :
    route m a = .wramMirror := by
  simp (disch := omega) only [route, if_pos, if_neg]

theorem route_hram (hc : m.cartSize < a.toNat) (hlo : 0xFF80 ≤ a.toNat) (hhi : a.toNat ≤ 0xFFFE) :
    route m a = .hram := by
  simp (disch := omega) only [route, if_pos, if_neg]

theorem route_joypad (hc : m.cartSize < a.toNat) (ha : a.toNat = 0xFF00) : route m a = .joypad := by
  simp (disch := omega) only [route, if_pos, if_neg]

theorem route_bootLatch (hc : m.cartSize < a.toNat) (ha : a.toNat = 0xFF50) : route m a = .bootLatch := by
  simp (disch := omega) only [route, if_pos, if_neg]

theorem route_unmapped (h : Hole m a) : route m a = .unmapped := by
  obtain ⟨hc, hb, hr⟩ := h
  simp (disch := omega) only [route, if_neg hb, if_neg]

end Routes

/-! What an access does on each route (rules R61 to R72) -/

section Accesses

variable {s : State} {a : Word} {v : Byte}

theorem read8_of_boot (h : route s.mem a = .boot) : read8 s a = .ok (readByte s.mem.boot a.toNat) := by
  rw [read8, h]

theorem read8_of_cart (h : route s.mem a = .cart) :
    read8 s a = if a.toNat < s.mem.cartSize then .ok (readByte s.mem.cart a.toNat) else .error (.unmappedRead a) := by
  rw [read8, h]

theorem read8_of_vram (h : route s.mem a = .vram) : read8 s a = .ok (readByte s.mem.vram (a.toNat - 0x8000)) := by
  rw [read8, h]

theorem read8_of_wram (h : route s.mem a = .wram) : read8 s a = .ok (readByte s.mem.wram (a.toNat - 0xC000)) := by
  rw [read8, h]

theorem read8_of_wramMirror (h : route s.mem a = .wramMirror) :
    read8 s a = .ok (readByte s.mem.wram (a.toNat - 0xE000)) := by
  rw [read8, h]

theorem read8_of_hram (h : route s.mem a = .hram) : read8 s a = .ok (readByte s.mem.hram (a.toNat - 0xFF80)) := by
  rw [read8, h]

theorem read8_of_joypad (h : route s.mem a = .joypad) : read8 s a = .ok s.params.joypadValue := by
  rw [read8, h]

theorem read8_of_unreadable (h : route s.mem a = .bootLatch ∨ route s.mem a = .unmapped) :
    read8 s a = .error (.unmappedRead a) := by
  obtain h | h := h <;> rw [read8, h]

theorem write8_of_vram (h : route s.mem a = .vram) :
    write8 s a v = { s with mem := { s.mem with vram := writeByte s.mem.vram (a.toNat - 0x8000) v } } := by
  rw [write8, h]; rfl

theorem write8_of_wram (h : route s.mem a = .wram) :
    write8 s a v = { s with mem := { s.mem with wram := writeByte s.mem.wram (a.toNat - 0xC000) v } } := by
  rw [write8, h]; rfl

theorem write8_of_wramMirror (h : route s.mem a = .wramMirror) :
    write8 s a v = { s with mem := { s.mem with wram := writeByte s.mem.wram (a.toNat - 0xE000) v } } := by
  rw [write8, h]; rfl

theorem write8_of_hram (h : route s.mem a = .hram) :
    write8 s a v = { s with mem := { s.mem with hram := writeByte s.mem.hram (a.toNat - 0xFF80) v } } := by
  rw [write8, h]; rfl

theorem write8_of_joypad (h : route s.mem a = .joypad) : write8 s a v = s.log (.unimplemented .joypadWrite) := by
  rw [write8, h]

theorem write8_of_bootLatch (h : route s.mem a = .bootLatch) :
    write8 s a v = if v = 1 then { s with mem := { s.mem with bootEnabled := false } } else s := by
  rw [write8, h]; rfl

/-- Where no byte can be stored a write is only logged (rules R62, R63). -/
theorem write8_of_readOnly (h : route s.mem a = .boot ∨ route s.mem a = .cart ∨ route s.mem a = .unmapped) :
    write8 s a v = s.log (.unmappedWrite a v) := by
  obtain h | h | h := h <;> rw [write8, h]

/-- The address at the cartridge's size is the cartridge's and holds nothing (rules R64, R65). -/
theorem read8_at_cartSize (hb : ¬(a.toNat < 0x100 ∧ s.mem.bootEnabled = true)) (ha : a.toNat = s.mem.cartSize) :
    read8 s a = .error (.unmappedRead a) := by
  rw [read8_of_cart (route_cart hb ha.le), if_neg ha.not_lt]

theorem read8_below_cartSize (hb : ¬(a.toNat < 0x100 ∧ s.mem.bootEnabled = true)) (ha : a.toNat < s.mem.cartSize) :
    read8 s a = .ok (readByte s.mem.cart a.toNat) := by
  rw [read8_of_cart (route_cart hb ha.le), if_pos ha]

/-- The boot latch cannot be read (rule R61). -/
theorem clearsBoot_of_read8_ok (w : Byte) (h : read8 s a = .ok v) : clearsBoot s.mem a w = false := by
  have hne : route s.mem a ≠ .bootLatch := fun hr => by
    rw [read8_of_unreadable (.inl hr)] at h; cases h
  simp [clearsBoot, hne]

end Accesses

/-- The address after the boot latch is not under the boot ROM. -/
theorem clearsBoot_eq_false_or_succ (m : Stores) (a : Word) (v : Byte) :
    clearsBoot m a v = false ∨ 0x100 ≤ (a + 1).toNat := by
  by_cases hr : route m a = .bootLatch
  · obtain ⟨-, -, -, -, -, hlatch, -⟩ := route_range m a
    have := hlatch hr
    right; bv_omega
  · left; simp [clearsBoot, hr]

/-- The frame of a word write: `read8_write8_other` for each of its bytes (rule R75). -/
theorem read8_write16_other (s : State) (a b w : Word) (hlo : place s.mem b ≠ place s.mem a)
    (hhi : place s.mem b ≠ place s.mem (a + 1))
    (hc : (clearsBoot s.mem a (loByte w) = false ∧ clearsBoot s.mem (a + 1) (hiByte w) = false) ∨ 0x100 ≤ b.toNat) :
    read8 (write16 s a w) b = read8 s b := by
  have hclo : clearsBoot s.mem a (loByte w) = false ∨ 0x100 ≤ b.toNat := hc.imp_left And.left
  have hnext := clearsBoot_eq_false_or_succ s.mem a (loByte w)
  have hchi : clearsBoot (write8 s a (loByte w)).mem (a + 1) (hiByte w) = false ∨ 0x100 ≤ b.toNat := by
    rw [clearsBoot, route_write8 s a _ _ hnext]; exact hc.imp_left And.right
  have hplace : place (write8 s a (loByte w)).mem b ≠ place (write8 s a (loByte w)).mem (a + 1) := by
    rwa [place_write8 s a _ b hclo, place_write8 s a _ _ hnext]
  rw [write16, read8_write8_other _ _ _ _ hplace hchi, read8_write8_other _ _ _ _ hlo hclo]

/-- A word read whose low byte faults makes no second read (rule R74). -/
theorem read16_of_low_error {s : State} {a : Word} {e : FatalError} (h : read8 s a = .error e) :
    read16 s a = .error e := by
  simp only [read16, h]

theorem read16_of_high_error {s : State} {a : Word} {lo : Byte} {e : FatalError} (hlo : read8 s a = .ok lo)
    (hhi : read8 s (a + 1) = .error e) : read16 s a = .error e := by
  simp only [read16, hlo, hhi]

/-! The stores an instruction makes -/

/-- An instruction that stores one byte it did not read completes, and its other effects are on registers. -/
theorem exec_of_byteStore {i : Instr} {s : State} {a : Word} {v : Byte} (h : byteStore s (formOf i) = some (a, v)) :
    ∃ r, exec i s = finish ((write8 s a v).setRegs r) i.opKey := by
  rw [exec_eq_runForm]
  cases hf : formOf i <;> rw [hf] at h
  case ld dst src =>
    cases dst
    case atHL =>
      obtain ⟨w, hw, hav⟩ := Option.map_eq_some_iff.1 h
      cases hav
      exact ⟨(write8 s s.regs.hl v).regs, by rw [runForm, loadSel, get8_of_getSel hw]; rfl⟩
    all_goals cases h
  case ldImm dst n =>
    cases dst <;> cases h
    exact ⟨(write8 s s.regs.hl v).regs, rfl⟩
  case ldIndA p => cases h; exact ⟨_, rfl⟩
  case ldATo w => cases h; exact ⟨(write8 s (s.regs.absAddr w) s.regs.a).regs, rfl⟩
  all_goals cases h

/-- An instruction that changes the byte at HL stores it back, and its other effects are on the flags. -/
theorem exec_of_byteUpdate {i : Instr} {s : State} {v w : Byte} (hv : read8 s s.regs.hl = .ok v)
    (h : byteUpdate s v (formOf i) = some w) :
    ∃ u, exec i s = finish u i.opKey ∧ SameBus (write8 s s.regs.hl w) u := by
  have hget : get8 s .atHL = .ok v := hv
  rw [exec_eq_runForm]
  cases hf : formOf i <;> rw [hf] at h
  case inc r =>
    cases r <;> cases h
    exact ⟨_, by rw [runForm, incSel, hget, attempt_ok], by simp [SameBus, incFlags, set8]⟩
  case dec r =>
    cases r <;> cases h
    exact ⟨_, by rw [runForm, decSel, hget, attempt_ok], by simp [SameBus, decFlags, set8]⟩
  case cb c =>
    cases c with
    | bit b r => cases h
    | rot _ r | res _ r | set _ r =>
      cases r <;> cases h
      exact ⟨_, by rw [runForm, runCb, hget, attempt_ok], by simp [SameBus, set8]⟩
  all_goals cases h

/-- An instruction that stores a word completes, and its other effects are on registers and the cycles. -/
theorem exec_of_wordStore {i : Instr} {s : State} {a w : Word} (h : wordStore s (formOf i) = some (a, w)) :
    ∃ r n, exec i s = .next (((write16 s a w).setRegs r).addCycles n) := by
  rw [exec_eq_runForm]
  cases hf : formOf i <;> rw [hf] at h
  case stSp nn => cases h; exact ⟨_, _, rfl⟩
  case push p => cases h; exact ⟨_, _, by rw [runForm, pushPair, push16_eq]; rfl⟩
  case call nn => cases h; exact ⟨_, _, by rw [runForm, callTo, push16_eq]; rfl⟩
  case callIf cc nn =>
    rw [wordStore] at h
    split at h
    · next hcc => cases h; exact ⟨_, _, by rw [runForm, callIf, if_pos hcc, callTo, push16_eq]; rfl⟩
    · cases h
  case rst y => cases h; exact ⟨_, _, by rw [runForm, restart, push16_eq]; rfl⟩
  all_goals cases h

/-! An instruction that stores nothing -/

/-- Memory, the devices, the event list and the parameters as before: all that a bus access reads or writes. -/
abbrev SameMemory (s t : State) : Prop :=
  t.mem = s.mem ∧ t.lcd = s.lcd ∧ t.irq.pending = s.irq.pending ∧ t.irq.ie = s.irq.ie ∧ t.events = s.events
    ∧ t.params = s.params

theorem SameMemory.of_sameBus {s t : State} (h : SameBus s t) : SameMemory s t := by
  obtain ⟨hm, hq, hl, he, -, -, hp⟩ := h
  exact ⟨hm, hl, congrArg _ hq, congrArg _ hq, he, hp⟩

/-- The answer is a next state with the memory of `s`. -/
abbrev LeavesMemory (s : State) (r : Result) : Prop := ∃ t, r = .next t ∧ SameMemory s t

theorem leavesMemory_next {s t : State} (h : SameMemory s t) : LeavesMemory s (.next t) := ⟨t, rfl, h⟩

theorem leavesMemory_raise (s : State) (e : FatalError) : LeavesMemory s (.next (s.raise e)) :=
  leavesMemory_next (by simp [SameMemory])

theorem leavesMemory_finish {s u : State} (k : OpKey) (h : SameMemory s u) : LeavesMemory s (finish u k) :=
  leavesMemory_next h

theorem leavesMemory_skip (s : State) (k : OpKey) : LeavesMemory s (skip s k) :=
  leavesMemory_next (by simp [SameMemory, advance_eq])

theorem leavesMemory_jump {s u : State} (k : OpKey) (w : Word) (h : SameMemory s u) : LeavesMemory s (jump u k w) :=
  leavesMemory_next h

theorem leavesMemory_attempt {s : State} {α : Type} {r : Except FatalError α} {k : α → Result}
    (h : ∀ v, LeavesMemory s (k v)) : LeavesMemory s (attempt s r k) := by
  cases r with
  | error e => exact leavesMemory_raise s e
  | ok v => exact h v

theorem leavesMemory_returnTo (k : OpKey) (s : State) : LeavesMemory s (returnTo k s) :=
  leavesMemory_attempt fun w => leavesMemory_jump k w (by simp [SameMemory])

theorem sameMemory_set8 (s : State) {r : Sel} (v : Byte) (h : r ≠ .atHL) : SameMemory s (set8 s r v) := by
  rw [set8_reg s v h]; simp [SameMemory]

theorem leavesMemory_runCb {s : State} {c : CbOp} (k : OpKey) (h : byteUpdate s 0 (.cb c) = none) :
    LeavesMemory s (runCb k c s) := by
  cases c with
  | rot op r =>
    have hr : r ≠ .atHL := by rintro rfl; cases h
    exact leavesMemory_attempt fun v => leavesMemory_finish k (by simp [SameMemory, set8_reg s _ hr])
  | bit b r => exact leavesMemory_attempt fun v => leavesMemory_finish k (by simp [SameMemory])
  | res b r | set b r =>
    have hr : r ≠ .atHL := by rintro rfl; cases h
    exact leavesMemory_attempt fun v => leavesMemory_finish k (sameMemory_set8 s _ hr)

/-- Every shape that stores nothing. LD (HL),(HL) is no instruction. -/
theorem runForm_leavesMemory {f : Form} {s : State} (k : OpKey) (h : storesNothing s f) (hld : f ≠ .ld .atHL .atHL) :
    LeavesMemory s (runForm k f s) := by
  obtain ⟨hbyte, hupdate, hword, hprefix⟩ := h
  cases f
  case ldIndA | ldATo => cases hbyte
  case stSp | push | call | rst => cases hword
  case prefixCb sub => exact absurd rfl (hprefix sub)
  case ld dst src =>
    have hdst : dst ≠ .atHL := by
      rintro rfl
      cases src
      case atHL => exact hld rfl
      all_goals cases hbyte
    exact leavesMemory_attempt fun v => leavesMemory_finish k (sameMemory_set8 s v hdst)
  case ldImm dst n =>
    have hdst : dst ≠ .atHL := by rintro rfl; cases hbyte
    exact leavesMemory_finish k (sameMemory_set8 s n hdst)
  case inc r =>
    have hr : r ≠ .atHL := by rintro rfl; cases hupdate
    exact leavesMemory_attempt fun v => leavesMemory_finish k (by simp [SameMemory, incFlags, set8_reg s _ hr])
  case dec r =>
    have hr : r ≠ .atHL := by rintro rfl; cases hupdate
    exact leavesMemory_attempt fun v => leavesMemory_finish k (by simp [SameMemory, decFlags, set8_reg s _ hr])
  case cb c => exact leavesMemory_runCb k hupdate
  case alu op src =>
    exact leavesMemory_attempt fun v => leavesMemory_finish k (.of_sameBus (applyAlu_spec s op v).1)
  case aluImm op n => exact leavesMemory_finish k (.of_sameBus (applyAlu_spec s op n).1)
  case ldAInd | ldAFrom | pop =>
    exact leavesMemory_attempt fun v => leavesMemory_finish k (by simp [SameMemory])
  case ldPair | ldSpHl | ldHlSp | cpl | scf | ccf | addHl | incPair | decPair | addSp | rotA | nop | di | ei =>
    exact leavesMemory_finish k (by simp [SameMemory])
  case jp | jpHl | jr => exact leavesMemory_jump k _ (by simp [SameMemory])
  case jpIf cc nn =>
    exact iteInduction (motive := LeavesMemory s) (fun _ => leavesMemory_jump k _ (by simp [SameMemory]))
      fun _ => leavesMemory_skip s k
  case jrIf cc e =>
    exact iteInduction (motive := LeavesMemory s) (fun _ => leavesMemory_jump k _ (by simp [SameMemory]))
      fun _ => leavesMemory_skip s k
  case callIf cc nn =>
    have hcc : ¬s.regs.holds cc = true := fun hcc => by rw [wordStore, if_pos hcc] at hword; cases hword
    rw [runForm, callIf, if_neg hcc]
    exact leavesMemory_skip s k
  case ret => exact leavesMemory_returnTo k s
  case retIf cc =>
    exact iteInduction (motive := LeavesMemory s) (fun _ => leavesMemory_returnTo k s) fun _ => leavesMemory_skip s k
  case reti => exact leavesMemory_attempt fun w => leavesMemory_jump k w (by simp [SameMemory])
  case daa =>
    rw [runForm, adjustA]
    split
    · exact leavesMemory_finish k (by simp [SameMemory])
    · exact leavesMemory_raise s _
  case halt =>
    exact iteInduction (motive := LeavesMemory s) (fun _ => leavesMemory_raise s _)
      fun _ => leavesMemory_finish k (by simp [SameMemory])
  case stop | illegal => exact leavesMemory_raise s _

/-! Reads that fault -/

/-- A data read comes before every effect of its instruction (rule R402). -/
theorem runForm_of_dataRead_error {f : Form} {s : State} {a : Word} {e : FatalError} (k : OpKey)
    (hd : dataRead s f = some a) (he : read8 s a = .error e) : runForm k f s = .next (s.raise e) := by
  have hget (h : s.regs.hl = a) : get8 s .atHL = .error e := by rw [← he, ← h]; rfl
  cases f
  case ld dst src =>
    cases src <;> cases hd
    rw [runForm, loadSel, hget rfl, attempt_error]
  case alu op src =>
    cases src <;> cases hd
    rw [runForm, aluSel, hget rfl, attempt_error]
  case ldAInd p => cases hd; rw [runForm, loadAInd, he, attempt_error]
  case ldAFrom w => cases hd; rw [runForm, loadAFrom, he, attempt_error]
  case inc r => cases r <;> cases hd; rw [runForm, incSel, hget rfl, attempt_error]
  case dec r => cases r <;> cases hd; rw [runForm, decSel, hget rfl, attempt_error]
  case cb c =>
    cases c with
    | rot _ r | bit _ r | res _ r | set _ r => cases r <;> cases hd; rw [runForm, runCb, hget rfl, attempt_error]
  all_goals cases hd

/-- A pop of which a byte faults leaves SP (rule R105). -/
theorem runForm_of_dataRead16_error {f : Form} {s : State} {a : Word} {e : FatalError} (k : OpKey)
    (hd : dataRead16 s f = some a) (he : read16 s a = .error e) : runForm k f s = .next (s.raise e) := by
  cases f
  case pop p => cases hd; rw [runForm, popPair, pop16, he, attempt_error]
  case ret => cases hd; rw [runForm, returnTo, pop16, he, attempt_error]
  case reti => cases hd; rw [runForm, returnFromInterrupt, pop16, he, attempt_error]
  case retIf cc =>
    rw [dataRead16] at hd
    split at hd
    · next hcc => cases hd; rw [runForm, returnIf, if_pos hcc, returnTo, pop16, he, attempt_error]
    · cases hd
  all_goals cases hd

end Sys2Proof.Machine

namespace Sys2Proof.Proofs

/-- Settles O11: the bus after the instruction is the one after its byte write. -/
theorem storeByteLeavesOtherBytes : Obligations.StoreByteLeavesOtherBytes := by
  unfold Obligations.StoreByteLeavesOtherBytes
  intro i s t a b v hstore h hplace hclears
  obtain ⟨r, hr⟩ := exec_of_byteStore hstore
  obtain rfl := next_inj (hr.symm.trans h)
  rw [read8_advance, read8_setRegs]
  exact read8_write8_other s a b v hplace hclears

/-- Settles O12: the byte at HL was read, so HL is not the boot latch. -/
theorem updateByteLeavesOtherBytes : Obligations.UpdateByteLeavesOtherBytes := by
  unfold Obligations.UpdateByteLeavesOtherBytes
  intro i s t b v w hv hupdate h hplace
  obtain ⟨u, hu, hbus⟩ := exec_of_byteUpdate hv hupdate
  obtain rfl := next_inj (hu.symm.trans h)
  obtain ⟨hm, hq, hl, -, -, -, hp⟩ := hbus
  rw [read8_advance, read8_congr hm hq hl hp]
  exact read8_write8_other s _ b w hplace (.inl (clearsBoot_of_read8_ok w hv))

/-- Settles O13: the bus after the instruction is the one after its word write. -/
theorem storeWordLeavesOtherBytes : Obligations.StoreWordLeavesOtherBytes := by
  unfold Obligations.StoreWordLeavesOtherBytes
  intro i s t a b w hstore h hlo hhi hclears
  obtain ⟨r, n, hr⟩ := exec_of_wordStore hstore
  obtain rfl := next_inj (hr.symm.trans h)
  rw [read8_addCycles, read8_setRegs]
  exact read8_write16_other s a b w hlo hhi hclears

/-- Settles O14: a read depends on nothing but what such an instruction leaves. -/
theorem storelessLeavesMemory : Obligations.StorelessLeavesMemory := by
  unfold Obligations.StorelessLeavesMemory
  intro i s t hstore h
  obtain ⟨t', ht', hm, hl, hq, he, hev, hp⟩ := runForm_leavesMemory i.opKey hstore (formOf_ne_ld_atHL i)
  rw [exec_eq_runForm] at h
  obtain rfl := next_inj (ht'.symm.trans h)
  exact ⟨hm, hl, hq, he, hev, hp, read8_congr_irq hm hq he hl hp⟩

/-- Settles O16: LD (nn),SP is a word write and the instruction's end. -/
theorem storeSpCompletes : Obligations.StoreSpCompletes := by
  unfold Obligations.StoreSpCompletes
  intro i nn s hi
  have hlen : i.opKey.length = 3 := length_of_form hi nofun
  have hrun : exec i s = .next (advance (write16 s nn s.regs.sp) i.opKey true) := exec_of_form hi s
  refine ⟨_, hrun, ⟨rfl, rfl, rfl, rfl, rfl, rfl, rfl⟩, ?_, ?_, ?_⟩ <;> simp [advance_eq, hlen]

/-- Settles O18: PUSH is `push16`, whose word write does not see the new SP. -/
theorem pushCompletes : Obligations.PushCompletes := by
  unfold Obligations.PushCompletes
  intro i p s hi
  have hlen : i.opKey.length = 1 := length_of_form hi nofun
  have hrun : exec i s = .next (advance (push16 s (s.regs.stackPair p)) i.opKey true) := exec_of_form hi s
  rw [push16_eq, ← pushed_eq] at hrun
  refine ⟨_, hrun, ?_, ⟨rfl, rfl, rfl, rfl, rfl, rfl, rfl⟩, ?_, ?_⟩ <;> simp [advance_eq, hlen, pushed]

/-- Settles O40: each read comes before every effect of its instruction. -/
theorem faultingReadEndsInstr : Obligations.FaultingReadEndsInstr := by
  unfold Obligations.FaultingReadEndsInstr
  intro i s a e
  rw [exec_eq_runForm]
  exact ⟨runForm_of_dataRead_error i.opKey,
    fun hd he => runForm_of_dataRead16_error i.opKey hd (read16_of_low_error he),
    fun lo hd hlo he => runForm_of_dataRead16_error i.opKey hd (read16_of_high_error hlo he)⟩

/-- Settles O50: the boot ROM and its latch by their routes. -/
theorem bootRomAndLatch : Obligations.BootRomAndLatch := by
  unfold Obligations.BootRomAndLatch
  intro s v a
  have hoff : s.mem.bootEnabled = false → ¬(a.toNat < 0x100 ∧ s.mem.bootEnabled = true) := fun hb h => by
    rw [hb] at h; cases h.2
  refine ⟨fun hc => ?_, fun ha => ⟨fun hb => ?_, fun hb hc => ?_, fun hb hc => ?_⟩⟩
  · have hr : route s.mem 0xFF50 = .bootLatch := route_bootLatch hc rfl
    exact ⟨read8_of_unreadable (.inl hr), write8_of_bootLatch hr⟩
  · exact read8_of_boot (route_boot ⟨ha, hb⟩)
  · exact read8_below_cartSize (hoff hb) hc
  · obtain hc | hc := hc.eq_or_lt
    · exact read8_at_cartSize (hoff hb) hc.symm
    · have hhole : Hole s.mem a := ⟨hc, hoff hb, .inl (by omega)⟩
      exact read8_of_unreadable (.inr (route_unmapped hhole))

/-- Settles O54: the RAM routes, and a read after a write at the same and at another place. -/
theorem ramHoldsLastWrite : Obligations.RamHoldsLastWrite := by
  unfold Obligations.RamHoldsLastWrite
  refine ⟨fun s a v hc => ⟨fun hlo hhi => ?_, fun hlo hhi => ?_, fun hlo hhi => ?_, fun hlo hhi => ?_⟩,
    fun s a b v hinv hram => ?_, fun s k v hc hk => ?_⟩
  · have hr : route s.mem a = .vram := route_vram hc hlo hhi
    exact ⟨read8_of_vram hr, write8_of_vram hr⟩
  · have hr : route s.mem a = .wram := route_wram hc hlo hhi
    exact ⟨read8_of_wram hr, write8_of_wram hr⟩
  · have hr : route s.mem a = .wramMirror := route_wramMirror hc hlo hhi
    exact ⟨read8_of_wramMirror hr, write8_of_wramMirror hr⟩
  · have hr : route s.mem a = .hram := route_hram hc hlo hhi
    exact ⟨read8_of_hram hr, write8_of_hram hr⟩
  · split
    · next hp => exact read8_write8_ram s a b v hinv hram hp
    · next hp => exact read8_write8_other s a b v hp (.inl (clearsBoot_of_isRam v hram))
  · have hw : (BitVec.ofNat 16 (0xC000 + k)).toNat = 0xC000 + k := Nat.mod_eq_of_lt (by omega)
    have hm : (BitVec.ofNat 16 (0xE000 + k)).toNat = 0xE000 + k := Nat.mod_eq_of_lt (by omega)
    have hrw : route s.mem (BitVec.ofNat 16 (0xC000 + k)) = .wram := route_wram (by omega) (by omega) (by omega)
    have hrm : route s.mem (BitVec.ofNat 16 (0xE000 + k)) = .wramMirror :=
      route_wramMirror (by omega) (by omega) (by omega)
    rw [read8_of_wram hrw, read8_of_wramMirror hrm, write8_of_wram hrw, write8_of_wramMirror hrm, hw, hm,
      Nat.add_sub_cancel_left, Nat.add_sub_cancel_left]
    exact ⟨rfl, rfl⟩

/-- Settles O55: the routes of ROM, of the holes and of the joypad address. -/
theorem romAndHoleAccesses : Obligations.RomAndHoleAccesses := by
  unfold Obligations.RomAndHoleAccesses
  refine ⟨fun s a v => ⟨fun ha hb => read8_below_cartSize hb ha, fun h => ?_, fun h => ?_,
    fun ha hb => read8_at_cartSize hb ha⟩, fun s v hc => ?_⟩
  · apply write8_of_readOnly
    by_cases hb : a.toNat < 0x100 ∧ s.mem.bootEnabled = true
    · exact .inl (route_boot hb)
    · exact .inr (.inl (route_cart hb (h.resolve_left hb)))
  · have hr : route s.mem a = .unmapped := route_unmapped h
    exact ⟨read8_of_unreadable (.inr hr), write8_of_readOnly (.inr (.inr hr))⟩
  · have hr : route s.mem 0xFF00 = .joypad := route_joypad hc rfl
    exact ⟨read8_of_joypad hr, write8_of_joypad hr⟩

end Sys2Proof.Proofs
end

section
/-! PROOFS. The encoding (rules R100 to R108, R520 to R522): bytes to instructions and back, the maps against the
opcode's fields, lengths and costs; and the conditional jumps, the calls and the returns (rules R340 to R351). -/

open Sys2Proof Sys2Proof.Machine

namespace Sys2Proof

/-! Decoding and encoding undo each other -/

/-- What follows an instruction's bytes is left; `decode_append` leaves out STOP, whose second byte is unchecked (R364). -/
theorem decode_encode_append (i : Instr) (h : i.WellFormed) (rest : List Byte) :
    decode (encode i ++ rest) = .ok (i, rest) := by
  by_cases hi : i = .stop
  · subst hi; rfl
  · exact decode_append (decode_encode i h) hi

/-- A sub-opcode's row is a well-formed instruction, encoded by 0xCB and that sub-opcode (rule R304). -/
theorem cbInstr_wellFormed_encode : ∀ sub : Byte, (cbInstr sub).WellFormed ∧ encode (cbInstr sub) = [0xCB, sub] := by
  decide +kernel

/-- A byte is one of the 256 numerals: the case split over an opcode, the operands being free. -/
theorem byte_cases {motive : Byte → Prop} (numeral : ∀ n < 256, motive (BitVec.ofNat 8 n)) (b : Byte) : motive b := by
  simpa using numeral b.toNat b.isLt

/-- Every base opcode but 0xCB has a well-formed instruction, whatever the operands (rule R304, log 13). -/
theorem baseInstr_wellFormed (op b1 b2 : Byte) : (baseInstr op b1 b2).wellFormed = decide (op ≠ 0xCB) := by
  cases op using byte_cases with | numeral n hn => interval_cases n <;> rfl

/-- A base opcode's instruction is encoded by that opcode and the operand bytes of its length; only STOP's second byte
is not the operand (rules R100, R104, R364). -/
theorem encode_baseInstr (op b1 b2 : Byte) (hcb : op ≠ 0xCB) (hstop : op ≠ 0x10) :
    encode (baseInstr op b1 b2) = op :: [b1, b2].take (opcodeLength op - 1) := by
  have hword : encode (baseInstr op b1 b2) = op :: if op = 0x10 then [0x00] else if opcodeLength op = 3
      then [loByte (joinBytes b2 b1), hiByte (joinBytes b2 b1)] else [b1].take (opcodeLength op - 1) := by
    clear hcb hstop
    cases op using byte_cases with | numeral n hn => interval_cases n <;> rfl
  rw [hword, if_neg hstop, loByte_joinBytes, hiByte_joinBytes]
  obtain h | h | h := opcodeLength_cases op hcb <;> rw [h] <;> rfl

/-- The base map and the opcode's fields name the same operation (rules R101 to R106, R108). -/
theorem formOf_baseInstr (op b1 b2 : Byte) : formOf (baseInstr op b1 b2) = fieldForm op b1 b2 := by
  cases op using byte_cases with | numeral n hn => interval_cases n <;> rfl

/-- The CB map and the sub-opcode's fields name the same operation (rules R107, R108). -/
theorem formOf_cbInstr : ∀ sub : Byte, formOf (cbInstr sub) = .cb (cbFields sub) := by decide +kernel

/-- The bytes that `decode` took are those of the instruction it gave, along the branches of `decode`. -/
theorem encode_of_decode {bytes rest : List Byte} {i : Instr} (h : decode bytes = .ok (i, rest)) (hi : i ≠ .stop) :
    i.WellFormed ∧ encode i ++ rest = bytes := by
  unfold decode at h
  split at h
  · cases h
  next op tail =>
  split_ifs at h with hcb hstop
  · subst hcb
    split at h
    · cases h
    next sub tail =>
    cases h
    obtain ⟨hwf, henc⟩ := cbInstr_wellFormed_encode sub
    exact ⟨hwf, by rw [henc]; rfl⟩
  · cases h
    exact absurd rfl hi
  · have hwf (b1 b2 : Byte) : (baseInstr op b1 b2).WellFormed := by
      rw [Instr.WellFormed, baseInstr_wellFormed, decide_eq_true hcb]
    split at h
    case h_4 => cases h
    all_goals
      next hlen =>
      cases h
      exact ⟨hwf .., by rw [encode_baseInstr _ _ _ hcb hstop, hlen]; rfl⟩

/-! Lengths and costs -/

/-- The length by which PC moves is the number of bytes (rule R100). -/
theorem encode_length (i : Instr) (h : i.WellFormed) :
    (encode i).length = i.opKey.length ∧ 1 ≤ (encode i).length ∧ (encode i).length ≤ 3 := by
  obtain ⟨sub, he, hk⟩ | ⟨op, tail, he, hop, hk, hlen, hle⟩ := encode_shape i h <;> rw [he, hk]
  · simp [OpKey.length]
  · have := opcodeLength_cases op hop
    simp only [List.length_cons, OpKey.length]
    omega

/-- An instruction with a sub-opcode as its key is 0xCB and that sub-opcode (rule R100). -/
theorem encode_of_opKey_cb {i : Instr} (h : i.WellFormed) {sub : Byte} (hk : i.opKey = .cb sub) :
    encode i = [0xCB, sub] := by
  obtain ⟨sub', he, hk'⟩ | ⟨op, tail, -, -, hk', -⟩ := encode_shape i h
  · rw [he, OpKey.cb.inj (hk.symm.trans hk')]
  · rw [hk] at hk'; cases hk'

end Sys2Proof

namespace Sys2Proof.Machine

/-- With no cell replaced the cost is the table's (rule R522). -/
theorem cyclesOf_default {p : Params} (h : p.cycles = []) (k : OpKey) (taken : Bool) :
    cyclesOf p k taken = if taken then (defaultCycles k).1 else (defaultCycles k).2 := by
  rw [cyclesOf, h]; rfl

/-- The table's cell is the one of the instruction's shape (rules R520, R521). -/
theorem defaultCycles_opKey (i : Instr) (h : i.WellFormed) : defaultCycles i.opKey = shapeCost (formOf i) := by
  cases i
  case illegal op =>
    have hzero : ∀ op : Byte, illegalBytes.contains op = true → baseCycles op = (0, 0) := by decide +kernel
    exact hzero op h
  all_goals rfl

/-! Jumps, calls and returns -/

/-- A condition fails as F's bits 7 and 4 say (rule R340). -/
theorem Regs.holds_eq_false {r : Regs} {cc : Cond}
    (h : (cc = .nz ∧ r.f.getLsbD 7 = true) ∨ (cc = .z ∧ r.f.getLsbD 7 = false)
      ∨ (cc = .nc ∧ r.f.getLsbD 4 = true) ∨ (cc = .c ∧ r.f.getLsbD 4 = false)) : r.holds cc = false := by
  have hz : r.f.getLsbD 7 = r.flags.z := congrArg Flags.z (Flags.ofByte_toByte r.flags)
  have hc : r.f.getLsbD 4 = r.flags.c := congrArg Flags.c (Flags.ofByte_toByte r.flags)
  rw [hz, hc] at h
  obtain ⟨rfl, h⟩ | ⟨rfl, h⟩ | ⟨rfl, h⟩ | ⟨rfl, h⟩ := h <;> simp [Regs.holds, h]

/-- A conditional instruction whose condition fails is skipped (rules R111, R340). -/
theorem exec_of_failed {i : Instr} {cc : Cond} {s : State} (hi : condition (formOf i) = some cc)
    (hcc : s.regs.holds cc = false) : exec i s = skip s i.opKey := by
  have hno : ¬s.regs.holds cc = true := by simp [hcc]
  rw [exec_eq_runForm]
  cases hf : formOf i <;> rw [hf] at hi
  case jpIf | jrIf | callIf | retIf => cases hi; exact if_neg hno
  all_goals cases hi

/-- A taken call is a push of the return address and a jump (rules R346, R347, R351). -/
theorem exec_of_callTarget {i : Instr} {s : State} {target ret : Word}
    (h : callTarget s (formOf i) = some (target, ret)) : exec i s = jump (push16 s ret) i.opKey target := by
  rw [exec_eq_runForm]
  cases hf : formOf i <;> rw [hf] at h
  case call nn => cases h; rfl
  case callIf cc nn =>
    obtain ⟨hcc, h⟩ := Option.ite_none_right_eq_some.1 h
    cases h
    exact if_pos hcc
  case rst y => cases h; rw [Nat.mul_comm]; rfl
  all_goals cases h

/-- The returns, with both stack bytes readable: RETI sets IME, RET and RET cc leave it (rules R348 to R350). -/
theorem exec_of_return {i : Instr} {s : State} {lo hi : Byte} {a : Word} (h : dataRead16 s (formOf i) = some a)
    (hpop : ∀ p, formOf i ≠ .pop p) (hlo : read8 s s.regs.sp = .ok lo) (hhi : read8 s (s.regs.sp + 1) = .ok hi) :
    exec i s = jump ((s.setSp (s.regs.sp + 2)).setIme (decide (formOf i = .reti) || s.irq.ime)) i.opKey
      (joinBytes hi lo) := by
  have hret : returnTo i.opKey s = jump (s.setSp (s.regs.sp + 2)) i.opKey (joinBytes hi lo) := pop16_ok _ hlo hhi
  rw [exec_eq_runForm]
  cases hf : formOf i <;> rw [hf] at h
  case pop p => exact absurd hf (hpop p)
  case ret => exact hret
  case retIf cc =>
    obtain ⟨hcc, -⟩ := Option.ite_none_right_eq_some.1 h
    exact (if_pos hcc).trans hret
  case reti => exact pop16_ok (fun t w => jump (t.setIme true) i.opKey w) hlo hhi
  all_goals cases h

end Sys2Proof.Machine

namespace Sys2Proof.Proofs

/-- Settles O1: an instruction's bytes alone decode to it, and what follows them is left. -/
theorem decodeOfEncodeIsInstr : Obligations.DecodeOfEncodeIsInstr := by
  unfold Obligations.DecodeOfEncodeIsInstr
  exact decode_encode_append

/-- Settles O2: each branch of `decode` takes the bytes its map's row is encoded by. -/
theorem encodeOfDecodeIsBytes : Obligations.EncodeOfDecodeIsBytes := by
  unfold Obligations.EncodeOfDecodeIsBytes
  exact fun _ _ _ => encode_of_decode

/-- Settles O3: both maps byte by byte, the operands being free. -/
theorem mapsAgreeWithFields : Obligations.MapsAgreeWithFields := by
  unfold Obligations.MapsAgreeWithFields
  exact ⟨fun op b1 b2 _ => formOf_baseInstr op b1 b2, formOf_cbInstr⟩

/-- Settles O4: the decoder evaluated on each word. -/
theorem sampleWordsDecode : Obligations.SampleWordsDecode := by
  unfold Obligations.SampleWordsDecode
  exact ⟨rfl, rfl, rfl, rfl, rfl, rfl, rfl, rfl, rfl, rfl, rfl⟩

/-- Settles O5: lengths by the shape of an encoding, costs by the shape of an instruction. -/
theorem lengthsAndDefaultCosts : Obligations.LengthsAndDefaultCosts := by
  unfold Obligations.LengthsAndDefaultCosts
  refine ⟨fun i h => ?_, fun p taken hp => ⟨fun sub => ?_, fun i h => ?_⟩⟩
  · obtain ⟨hlen, hmin, hmax⟩ := encode_length i h
    exact ⟨hlen, hmin, hmax, fun sub => encode_of_opKey_cb h⟩
  · rw [cyclesOf_default hp, defaultCycles, apply_ite Prod.fst, apply_ite Prod.snd, ite_self]
  · rw [cyclesOf_default hp, defaultCycles_opKey i h]

/-- Settles O35: the failed condition skips the instruction. -/
theorem failedConditionFallsThrough : Obligations.FailedConditionFallsThrough := by
  unfold Obligations.FailedConditionFallsThrough
  intro i cc s hi hcc
  exact ⟨_, exec_of_failed hi (Regs.holds_eq_false hcc), rfl, sameOutside_of rfl rfl rfl rfl rfl rfl rfl, rfl, rfl⟩

/-- Settles O36: the push's bus writes leave the registers, and the jump writes PC. -/
theorem callCompletes : Obligations.CallCompletes := by
  unfold Obligations.CallCompletes
  intro i target ret s h
  refine ⟨_, exec_of_callTarget h, ?_⟩
  rw [push16_eq, ← pushed_eq]
  exact ⟨⟨rfl, rfl, rfl, rfl, rfl, rfl, rfl⟩, by simp, by simp [pushed], by simp [pushed]⟩

/-- Settles O37: a pop into PC, RETI's with IME set. -/
theorem returnCompletes : Obligations.ReturnCompletes := by
  unfold Obligations.ReturnCompletes
  intro i s lo hi h hpop hlo hhi
  exact ⟨_, exec_of_return h hpop hlo hhi, rfl, rfl, rfl, rfl, rfl, rfl, rfl, rfl, rfl, rfl⟩

end Sys2Proof.Proofs
end

section
/-! PROOFS. The 8-bit loads (rules R200 to R218): what each leaves in the register file, and the bus write of a store. -/

open Sys2Proof Sys2Proof.Machine

namespace Sys2Proof.Machine

/-! The register file after a load or a store -/

/-- HL after an indirect access: (HL+) and (HL-) move it by one, mod 2^16 (`Regs.stepPtr_eq`; rules R215 to R218). -/
def Regs.steppedHl (r : Regs) : Ptr → Word
  | .bc => r.hl
  | .de => r.hl
  | .hlInc => r.hl + 1
  | .hlDec => r.hl - 1

/-- HL after an instruction that stores a byte it did not read (`exec_of_byteStore_regs`). -/
def Regs.hlAfterStore (r : Regs) : Form → Word
  | .ldIndA p => r.steppedHl p
  | _ => r.hl

theorem Regs.hlAfterStore_of_ne (r : Regs) {f : Form} (hinc : f ≠ .ldIndA .hlInc) (hdec : f ≠ .ldIndA .hlDec) :
    r.hlAfterStore f = r.hl := by
  cases f
  case ldIndA p =>
    cases p with
    | bc | de => rfl
    | hlInc => exact absurd rfl hinc
    | hlDec => exact absurd rfl hdec
  all_goals rfl

/-- HL set to what it holds. -/
@[simp] theorem Regs.setPair_hl_self (r : Regs) : r.setPair .hl r.hl = r := by
  simp [Regs.setPair, Regs.hl]

theorem Regs.stepPtr_eq (r : Regs) (p : Ptr) : r.stepPtr p = r.setPair .hl (r.steppedHl p) := by
  cases p with
  | bc | de => exact r.setPair_hl_self.symm
  | hlInc | hlDec => rfl

/-- An address in the high page is known by its number (rule R104). -/
theorem eq_highPage {a : Word} {n : Byte} (h : a.toNat = 0xFF00 + n.toNat) : a = highPage n := by
  have hsum : (highPage n).toNat = (0xFF00 + n.toNat) % 2 ^ 16 := by simp [highPage, zext16]
  apply BitVec.eq_of_toNat_eq
  omega

/-! What the loads do -/

/-- An instruction that puts a register file in place and nothing else. -/
theorem exec_of_finish_regs {i : Instr} {s : State} {r : Regs} (h : exec i s = finish (s.setRegs r) i.opKey) :
    ∃ t, exec i s = .next t ∧ t.regs = { r with pc := r.pc + BitVec.ofNat 16 i.opKey.length } ∧ RanOnRegisters i s t
      ∧ t.draws = s.draws :=
  ⟨_, h, rfl, ran_of_sameBus (by simp [SameBus]) (by simp), rfl⟩

/-- LD of a selector's byte and LD of an immediate, into a register or memory at HL (rules R200 to R204). -/
theorem exec_of_load {i : Instr} {dst : Sel} {s : State} {v : Byte}
    (h : (∃ src, formOf i = .ld dst src ∧ get8 s src = .ok v) ∨ formOf i = .ldImm dst v) :
    exec i s = finish (set8 s dst v) i.opKey := by
  obtain ⟨src, hi, hv⟩ | hi := h
  · rw [exec_of_form hi, runForm, loadSel, hv, attempt_ok]
  · exact exec_of_form hi s

/-- LD A,(BC), (DE), (HL+), (HL-) with the byte readable (rules R205, R206, R217, R218). -/
theorem exec_of_ldAInd {i : Instr} {p : Ptr} {s : State} {v : Byte} (hi : formOf i = .ldAInd p)
    (hv : read8 s (s.regs.ptr p) = .ok v) :
    exec i s = finish (s.setRegs { s.regs.setPair .hl (s.regs.steppedHl p) with a := v }) i.opKey := by
  rw [exec_of_form hi, runForm, loadAInd, hv, attempt_ok, Regs.stepPtr_eq]

/-- LD A,(nn), LDH A,(n), LD A,(C) with the byte readable (rules R209, R211, R213). -/
theorem exec_of_ldAFrom {i : Instr} {w : AbsAddr} {s : State} {v : Byte} (hi : formOf i = .ldAFrom w)
    (hv : read8 s (s.regs.absAddr w) = .ok v) : exec i s = finish (s.setRegs { s.regs with a := v }) i.opKey := by
  rw [exec_of_form hi, runForm, loadAFrom, hv, attempt_ok]

/-- `exec_of_byteStore` with the register file named: the store's only effect on it is HL's step. -/
theorem exec_of_byteStore_regs {i : Instr} {s : State} {a : Word} {v : Byte}
    (h : byteStore s (formOf i) = some (a, v)) :
    exec i s = finish ((write8 s a v).setRegs (s.regs.setPair .hl (s.regs.hlAfterStore (formOf i)))) i.opKey := by
  have hkeep : (write8 s a v).setRegs (s.regs.setPair .hl s.regs.hl) = write8 s a v := by
    rw [Regs.setPair_hl_self]; exact (write8_setRegs s s.regs a v).symm
  cases hf : formOf i <;> rw [hf] at h
  case ld dst src =>
    cases dst
    case atHL =>
      obtain ⟨w, hw, hav⟩ := Option.map_eq_some_iff.1 h
      cases hav
      exact (exec_of_load (.inl ⟨src, hf, get8_of_getSel hw⟩)).trans (congrArg (finish · i.opKey) hkeep.symm)
    all_goals cases h
  case ldImm dst n =>
    cases dst <;> cases h
    exact (exec_of_load (.inr hf)).trans (congrArg (finish · i.opKey) hkeep.symm)
  case ldIndA p =>
    cases h
    rw [exec_of_form hf, runForm, storeAInd, write8_regs, Regs.stepPtr_eq]; rfl
  case ldATo w =>
    cases h
    exact (exec_of_form hf s).trans (congrArg (finish · i.opKey) hkeep.symm)
  all_goals cases h

end Sys2Proof.Machine

namespace Sys2Proof.Proofs

/-- Settles O7: a register write and the instruction's end, at the length of its shape. -/
theorem loadRegisterCompletes : Obligations.LoadRegisterCompletes := by
  unfold Obligations.LoadRegisterCompletes
  intro i dst s v h hdst
  have hlen : BitVec.ofNat 16 i.opKey.length = if formOf i = .ldImm dst v then 2 else 1 := by
    obtain ⟨src, hi, -⟩ | hi := h <;> rw [length_of_form hi nofun, hi]
    · exact (if_neg nofun).symm
    · exact (if_pos rfl).symm
  have hrun := exec_of_load h
  rw [set8_reg s v hdst] at hrun
  obtain ⟨t, ht, hregs, hran⟩ := exec_of_finish_regs hrun
  rw [hlen, Regs.setSel_pc] at hregs
  exact ⟨t, ht, hregs, hran⟩

/-- Settles O8: the pointer gives the address and HL's step. -/
theorem loadAIndirectCompletes : Obligations.LoadAIndirectCompletes := by
  unfold Obligations.LoadAIndirectCompletes
  intro i p a hl s v hi hbc hde hinc hdec hv
  obtain ⟨rfl, rfl⟩ : a = s.regs.ptr p ∧ hl = s.regs.steppedHl p := by
    cases p with
    | bc => exact hbc rfl
    | de => exact hde rfl
    | hlInc => exact hinc rfl
    | hlDec => exact hdec rfl
  have hlen : i.opKey.length = 1 := length_of_form hi nofun
  have h := exec_of_finish_regs (exec_of_ldAInd hi hv)
  rwa [hlen] at h

/-- Settles O9: the number names the operand's address. -/
theorem loadADirectCompletes : Obligations.LoadADirectCompletes := by
  unfold Obligations.LoadADirectCompletes
  intro i w a s v hi habs hhigh hhighC hv
  obtain rfl : a = s.regs.absAddr w := by
    cases w with
    | abs nn => exact habs nn rfl
    | high n => exact eq_highPage (hhigh n rfl)
    | highC => exact eq_highPage (hhighC rfl)
  exact exec_of_finish_regs (exec_of_ldAFrom hi hv)

/-- Settles O10: the bus write, then HL set to its step and the instruction's end. -/
theorem storeByteCompletes : Obligations.StoreByteCompletes := by
  unfold Obligations.StoreByteCompletes
  intro i s a v h
  have hhl : (s.regs.setPair .hl (s.regs.hlAfterStore (formOf i))).hl = s.regs.hlAfterStore (formOf i) :=
    Regs.pair_setPair s.regs .hl _
  refine ⟨_, exec_of_byteStore_regs h, ⟨rfl, rfl, rfl, rfl, rfl, rfl, rfl⟩, rfl, fun hf => hhl.trans (by rw [hf]; rfl),
    fun hf => hhl.trans (by rw [hf]; rfl), fun hinc hdec => hhl.trans (s.regs.hlAfterStore_of_ne hinc hdec), rfl, rfl,
    rfl, rfl, rfl, ?_, ?_⟩ <;> simp [advance_eq]

end Sys2Proof.Proofs
end

section
/-! PROOFS. The 16-bit loads and the stack (rules R230 to R236), with ADD SP,e (rule R283): the pair that each sets, and a
pushed word popped again. -/

open Sys2Proof Sys2Proof.Machine

namespace Sys2Proof.Machine

/-! The pairs -/

@[simp] theorem Regs.setPair_a (r : Regs) (p : Pair) (w : Word) : (r.setPair p w).a = r.a := by
  cases p <;> rfl

@[simp] theorem Regs.setPair_flags (r : Regs) (p : Pair) (w : Word) : (r.setPair p w).flags = r.flags := by
  cases p <;> rfl

@[simp] theorem Regs.setPair_pc (r : Regs) (p : Pair) (w : Word) : (r.setPair p w).pc = r.pc := by
  cases p <;> rfl

/-- The pairs of a register file with one pair set; F and PC are in none of them. -/
theorem Regs.pairs_of_setPair {r r' : Regs} {p : Pair} {w v : Word} {g : Flags}
    (h : r' = { r.setPair p w with flags := g, pc := v }) : r'.pair p = w ∧ ∀ q, q ≠ p → r'.pair q = r.pair q := by
  have hpair (q : Pair) : r'.pair q = (r.setPair p w).pair q := by subst h; cases q <;> rfl
  exact ⟨(hpair p).trans (r.pair_setPair p w), fun q hq => (hpair q).trans (r.pair_setPair_other w hq)⟩

/-- LD rr,nn and LD SP,HL (rules R230, R232). -/
theorem exec_of_loadPair {i : Instr} {p : Pair} {w : Word} {s : State}
    (h : formOf i = .ldPair p w ∨ (formOf i = .ldSpHl ∧ p = .sp ∧ w = s.regs.hl)) :
    exec i s = finish (s.setRegs (s.regs.setPair p w)) i.opKey := by
  obtain hi | ⟨hi, rfl, rfl⟩ := h <;> exact exec_of_form hi s

/-! SP plus a displacement -/

/-- Sign extension adds the signed value (rule R11). -/
theorem add_sext16 (w : Word) (e : Byte) : w + sext16 e = BitVec.ofInt 16 ((w.toNat : Int) + e.toInt) := by
  rw [BitVec.ofInt_add, BitVec.ofInt_natCast, BitVec.ofNat_toNat, BitVec.setWidth_eq]; rfl

/-- LD HL,SP+e and ADD SP,e differ in the pair that gets the sum (rules R233, R283). -/
theorem exec_of_spPlus {i : Instr} {e : Byte} {p : Pair} {s : State}
    (h : (formOf i = .ldHlSp e ∧ p = .hl) ∨ (formOf i = .addSp e ∧ p = .sp)) :
    exec i s = finish ((((s.setRegs (s.regs.setPair p (spPlus s.regs.sp e).res)).setZ false).setC
      (spPlus s.regs.sp e).carry).setHN (spPlus s.regs.sp e).half false) i.opKey := by
  obtain ⟨hi, rfl⟩ | ⟨hi, rfl⟩ := h <;> exact exec_of_form hi s

/-! A pushed word popped again -/

/-- A word written to RAM is read back byte by byte (rules R66 to R68, R75). -/
theorem read8_write16_ram {s : State} {a : Word} (w : Word) (hinv : s.Inv) (hlo : isRam s.mem a = true)
    (hhi : isRam s.mem (a + 1) = true) :
    read8 (write16 s a w) a = .ok (loByte w) ∧ read8 (write16 s a w) (a + 1) = .ok (hiByte w) := by
  have hroute (b : Word) : route (write8 s a (loByte w)).mem b = route s.mem b :=
    route_write8 s a (loByte w) b (.inl (clearsBoot_of_isRam _ hlo))
  have hram : isRam (write8 s a (loByte w)).mem (a + 1) = true := (isRam_congr (hroute _)).trans hhi
  have hplace : place (write8 s a (loByte w)).mem a ≠ place (write8 s a (loByte w)).mem (a + 1) :=
    (place_succ_ne ((isRam_congr (hroute a)).trans hlo) hram).symm
  constructor
  · rw [write16, read8_write8_other _ _ _ _ hplace (.inl (clearsBoot_of_isRam _ hram))]
    exact read8_write8_ram s a a _ hinv hlo rfl
  · exact read8_write8_ram _ (a + 1) (a + 1) _ (write8_inv s a _ hinv) hram rfl

/-- What a push stored in RAM is read back. -/
theorem read8_pushed {s : State} (w : Word) (hinv : s.Inv) (hlo : isRam s.mem (s.regs.sp - 2) = true)
    (hhi : isRam s.mem (s.regs.sp - 1) = true) :
    read8 (pushed s w) (s.regs.sp - 2) = .ok (loByte w) ∧ read8 (pushed s w) (s.regs.sp - 2 + 1) = .ok (hiByte w) := by
  rw [pushed_eq]
  exact read8_write16_ram w hinv hlo (by rwa [show s.regs.sp - 2 + 1 = s.regs.sp - 1 by bv_omega])

/-- What POP AF keeps of a word (rule R24). -/
theorem joinBytes_clear_low (w : Word) : joinBytes (hiByte w) (loByte w &&& 0xF0) = w &&& 0xFFF0 := by
  have hhi : hiByte w &&& 0xFF = hiByte w := BitVec.and_allOnes
  calc joinBytes (hiByte w) (loByte w &&& 0xF0)
      = joinBytes (hiByte w &&& 0xFF) (loByte w &&& 0xF0) := by rw [hhi]
    _ = joinBytes (hiByte w) (loByte w) &&& joinBytes 0xFF 0xF0 := BitVec.and_append.symm
    _ = w &&& 0xFFF0 := by rw [joinBytes_hi_lo]; rfl

end Sys2Proof.Machine

namespace Sys2Proof.Proofs

/-- Settles O15: the pair's write and the instruction's end, at the length of its shape. -/
theorem loadPairCompletes : Obligations.LoadPairCompletes := by
  unfold Obligations.LoadPairCompletes
  intro i p w s h
  have hlen : BitVec.ofNat 16 i.opKey.length = if formOf i = .ldSpHl then 1 else 3 := by
    obtain hi | ⟨hi, -⟩ := h <;> rw [length_of_form hi nofun, hi]
    · exact (if_neg nofun).symm
    · exact (if_pos rfl).symm
  obtain ⟨t, ht, hregs, hran, hdraws⟩ := exec_of_finish_regs (exec_of_loadPair h)
  obtain ⟨hset, hkeep⟩ := Regs.pairs_of_setPair hregs
  rw [hlen, Regs.setPair_pc] at hregs
  exact ⟨t, ht, hregs, hset, hkeep, hran, hdraws⟩

/-- Settles O17: the sum goes to one pair, and the flags are the carries of `spPlus`. -/
theorem spPlusDisplacementCompletes : Obligations.SpPlusDisplacementCompletes := by
  unfold Obligations.SpPlusDisplacementCompletes
  intro i e s h
  have hlen : i.opKey.length = 2 := by obtain hi | hi := h <;> exact length_of_form hi nofun
  have hsum : (spPlus s.regs.sp e).res = BitVec.ofInt 16 ((s.regs.sp.toNat : Int) + e.toInt) := add_sext16 ..
  obtain ⟨p, hp⟩ : ∃ p : Pair, (formOf i = .ldHlSp e ∧ p = .hl) ∨ (formOf i = .addSp e ∧ p = .sp) :=
    h.elim (fun hi => ⟨.hl, .inl ⟨hi, rfl⟩⟩) fun hi => ⟨.sp, .inr ⟨hi, rfl⟩⟩
  obtain ⟨t, ht, hregs, hflags, hran⟩ := exec_of_finish_flags (exec_of_spPlus hp) (Regs.setPair_flags ..)
    (Regs.setPair_pc ..)
  obtain ⟨hset, hkeep⟩ := Regs.pairs_of_setPair hregs
  rw [hsum] at hset
  rw [hlen] at hregs
  have ha : t.regs.a = s.regs.a := by rw [hregs]; exact Regs.setPair_a ..
  have hpc : t.regs.pc = s.regs.pc + 2 := congrArg Regs.pc hregs
  obtain ⟨hi, rfl⟩ | ⟨hi, rfl⟩ := hp
  · exact ⟨t, ht, ⟨fun _ => ⟨hset, hkeep .sp nofun⟩, fun h => by cases hi.symm.trans h⟩, hflags, ha, hkeep .bc nofun,
      hkeep .de nofun, hpc, hran⟩
  · exact ⟨t, ht, ⟨fun h => (by cases hi.symm.trans h), fun _ => ⟨hset, hkeep .hl nofun⟩⟩, hflags, ha, hkeep .bc nofun,
      hkeep .de nofun, hpc, hran⟩

/-- Settles O20: POP finds at the new SP the two bytes that PUSH stored in RAM. -/
theorem pushThenPopRoundTrip : Obligations.PushThenPopRoundTrip := by
  unfold Obligations.PushThenPopRoundTrip
  intro i j p q s hinv hi hj hlo hhi
  obtain ⟨t, ht, hregs, ⟨hm, hq, hl, -, -, -, hp⟩, -⟩ := pushCompletes i p s hi
  have hread : ∀ a, read8 t a = read8 (pushed s (s.regs.stackPair p)) a := read8_congr hm hq hl hp
  have hsp : t.regs.sp = s.regs.sp - 2 := congrArg Regs.sp hregs
  obtain ⟨hreadLo, hreadHi⟩ := read8_pushed (s.regs.stackPair p) hinv hlo hhi
  rw [← hread, ← hsp] at hreadLo hreadHi
  obtain ⟨u, hu, husp, -, hpop, -⟩ := popCompletes j q t _ _ hj hreadLo hreadHi
  refine ⟨t, u, ht, hu, ?_, fun hne => ?_, fun he => ?_⟩
  · rw [husp, hsp, BitVec.sub_add_cancel]
  · rw [hpop, if_neg hne, joinBytes_hi_lo]
  · rw [hpop, if_pos he, joinBytes_clear_low]

end Sys2Proof.Proofs
end

section
/-! PROOFS. The 8-bit arithmetic and logic (rules R251 to R275), with the operations on the byte at HL (rules R269,
R271, R304 to R315): the result in A or back at HL, and the flags in the arithmetic of the whole byte. -/

open Sys2Proof Sys2Proof.Machine

namespace Sys2Proof.Machine

/-! The `alu` operations -/

/-- An `alu` operation completes with what `Alu.eval` gives. -/
theorem exec_of_alu {i : Instr} {op : Alu} {v : Byte} {s : State} {r : AluResult} (h : AluOperand s i op v)
    (hr : op.eval s.regs.a v s.regs.flags.c = r) :
    ∃ t, exec i s = .next t ∧ t.regs.a = (if op.writesA then r.res else s.regs.a)
      ∧ FlagsWritten s.params s.regs.flags t.regs.flags (decide (r.res = 0)) r.c r.h r.n
      ∧ t.regs = { s.regs with
          a := t.regs.a, flags := t.regs.flags, pc := s.regs.pc + BitVec.ofNat 16 i.opKey.length }
      ∧ RanOnRegisters i s t := by
  subst hr
  obtain ⟨hbus, hcycles, ha, hflags, hregs⟩ := applyAlu_spec s op v
  exact ⟨_, exec_of_aluOperand h, ha, hflags, by rw [advance_eq, hregs], ran_of_sameBus hbus hcycles⟩

/-- SUB, SBC and CP in numbers (rule R251): one difference, from which SBC takes the carry flag too. -/
theorem Alu.eval_subtract {op : Alu} (h : op = .sub ∨ op = .sbc ∨ op = .cp) (a v : Byte) (c : Bool) :
    op.eval a v c =
      let cin := (decide (op = .sbc) && c).toNat
      { res := BitVec.ofInt 8 ((a.toNat : Int) - v.toNat - cin), n := true
        h := decide (a.toNat % 16 < v.toNat % 16 + cin), c := decide (a.toNat < v.toNat + cin) } := by
  obtain rfl | rfl | rfl := h <;> rfl

/-- AND, XOR and OR clear N and C, and AND alone sets H (rules R260 to R265). -/
theorem Alu.eval_logic {op : Alu} (h : op = .and ∨ op = .xor ∨ op = .or) (a v : Byte) (c : Bool) :
    op.eval a v c = { res := (op.eval a v c).res, n := false, h := decide (op = .and), c := false } := by
  obtain rfl | rfl | rfl := h <;> rfl

theorem Alu.writesA_of_ne_cp {op : Alu} (h : op ≠ .cp) : op.writesA = true := by
  cases op
  case cp => exact absurd rfl h
  all_goals rfl

/-- A byte made of an integer holds it mod 256. -/
theorem toNat_ofInt_byte (d : Int) : ((BitVec.ofInt 8 d).toNat : Int) = d % 256 := by
  rw [BitVec.toNat_ofInt, Int.toNat_of_nonneg (Int.emod_nonneg d (by decide))]; rfl

theorem ofInt_byte_eq_zero_iff (d : Int) : BitVec.ofInt 8 d = 0 ↔ d % 256 = 0 := by
  rw [← toNat_ofInt_byte, ← BitVec.toNat_inj, Int.natCast_eq_zero]; rfl

/-! CPL, SCF, CCF -/

/-- CPL (rule R273). -/
theorem exec_cpl (s : State) :
    exec .cpl s = finish ((((s.setRegs { s.regs with a := ~~~s.regs.a }).setZ s.regs.flags.z).setC
      s.regs.flags.c).setHN true true) Instr.cpl.opKey := rfl

/-- SCF and CCF: both write C and leave Z (rules R274, R275). -/
theorem exec_scf_ccf (s : State) :
    exec .scf s = finish ((((s.setRegs s.regs).setZ s.regs.flags.z).setC true).setHN false false) Instr.scf.opKey
      ∧ exec .ccf s = finish ((((s.setRegs s.regs).setZ s.regs.flags.z).setC (!s.regs.flags.c)).setHN false false)
          Instr.ccf.opKey :=
  ⟨rfl, rfl⟩

/-! DAA -/

/-- DAA under `FULL` (rule R272). -/
theorem exec_daa_of_full {s : State} (h : s.params.flagModel = .full) {r : Byte × Bool}
    (hr : daaAdjust s.regs.a s.regs.flags.n s.regs.flags.h s.regs.flags.c = r) :
    exec .daa s = finish (s.setRegs { s.regs with
      a := r.1, flags := { s.regs.flags with z := decide (r.1 = 0), h := false, c := r.2 } }) Instr.daa.opKey := by
  subst hr
  show adjustA (.base 0x27) s = _
  rw [adjustA, h]; rfl

/-- DAA under the other flag models (rule R272). -/
theorem exec_daa_of_not_full {s : State} (h : s.params.flagModel ≠ .full) :
    exec .daa s = .next (s.raise (.unimplemented .daa)) := by
  show adjustA (.base 0x27) s = _
  unfold adjustA
  split
  · next hfull => exact absurd hfull h
  · rfl

/-! The sum of two packed decimal bytes, as ADD leaves it to DAA -/

/-- A byte is above 0x99, or has carried, exactly when the decimal sum passes 99. -/
theorem packed_sum_high {x y : Nat} (hx : x < 100) (hy : y < 100) :
    (255 < 16 * (x / 10) + x % 10 + (16 * (y / 10) + y % 10)
        ∨ 0x99 < (16 * (x / 10) + x % 10 + (16 * (y / 10) + y % 10)) % 256) ↔ 100 ≤ x + y := by
  have hcarry : ∀ n : Nat, n ≤ 0x132 → (255 < n ∨ 0x99 < n % 256 ↔ 0x99 < n) := by omega
  rw [hcarry _ (by omega)]
  omega

/-- A low digit is above 9, or has carried, exactly when the sum of the units passes 9. -/
theorem packed_sum_low (x y : Nat) :
    (15 < (16 * (x / 10) + x % 10) % 16 + (16 * (y / 10) + y % 10) % 16
        ∨ 9 < (16 * (x / 10) + x % 10 + (16 * (y / 10) + y % 10)) % 256 % 16) ↔ 10 ≤ x % 10 + y % 10 := by
  omega

/-- The packed sum with both adjustments is the packed decimal sum mod 100. -/
theorem packed_sum_adjusted {x y : Nat} (hx : x < 100) (hy : y < 100) :
    ((16 * (x / 10) + x % 10 + (16 * (y / 10) + y % 10)) % 256 + 0x60 * (decide (100 ≤ x + y)).toNat
        + 0x06 * (decide (10 ≤ x % 10 + y % 10)).toNat) % 256
      = 16 * ((x + y) % 100 / 10) + (x + y) % 10 := by
  simp only [Bool.toNat, Bool.cond_decide]
  split <;> split <;> omega

/-! The byte at HL read, changed and stored back -/

/-- The shapes that change the byte at HL, and the byte each stores. -/
theorem byteUpdate_cases {s : State} {v w : Byte} {f : Form} (h : byteUpdate s v f = some w) :
    (f = .inc .atHL ∧ w = v + 1) ∨ (f = .dec .atHL ∧ w = v - 1)
      ∨ (∃ op, f = .cb (.rot op .atHL) ∧ w = (op.eval v s.regs.flags.c).res)
      ∨ (∃ b, f = .cb (.res b .atHL) ∧ w = v &&& ~~~bitMask b)
      ∨ ∃ b, f = .cb (.set b .atHL) ∧ w = v ||| bitMask b := by
  unfold byteUpdate at h
  split at h <;> cases h <;> simp

/-- A byte stored at HL, then flags alone: what the instruction leaves. -/
theorem exec_of_storeBack {i : Instr} {s u : State} {w : Byte} {g : Flags} (he : exec i s = finish u i.opKey)
    (hbus : SameBus (write8 s s.regs.hl w) u) (hregs : u.regs = { s.regs with flags := g }) (hc : u.cycles = s.cycles) :
    ∃ t, exec i s = .next t ∧ SameBus (write8 s s.regs.hl w) t
      ∧ t.regs = { s.regs with flags := t.regs.flags, pc := s.regs.pc + BitVec.ofNat 16 i.opKey.length }
      ∧ t.cycles = s.cycles + cyclesOf s.params i.opKey true ∧ t.regs.flags = g := by
  obtain ⟨hm, hq, hl, hev, hh, hf, hp⟩ := hbus
  refine ⟨_, he, ⟨hm, hq, hl, hev, hh, hf, hp⟩, ?_, ?_, ?_⟩
  · rw [advance_eq, hregs]
  · rw [advance_eq, hc, hp, write8_params]
  · rw [advance_eq, hregs]

/-- A byte stored at HL, then Z, C, H and N written. -/
theorem exec_of_storeBack_flags {i : Instr} {s : State} {w : Byte} {z c h n : Bool}
    (he : exec i s = finish ((((write8 s s.regs.hl w).setZ z).setC c).setHN h n) i.opKey) :
    ∃ t, exec i s = .next t ∧ SameBus (write8 s s.regs.hl w) t
      ∧ t.regs = { s.regs with flags := t.regs.flags, pc := s.regs.pc + BitVec.ofNat 16 i.opKey.length }
      ∧ t.cycles = s.cycles + cyclesOf s.params i.opKey true
      ∧ FlagsWritten s.params s.regs.flags t.regs.flags z c h n := by
  obtain ⟨g, hg⟩ := setHN_regs (((write8 s s.regs.hl w).setZ z).setC c) h n
  have hregs : ((((write8 s s.regs.hl w).setZ z).setC c).setHN h n).regs = { s.regs with flags := g } := by
    rw [hg]; simp [Regs.setZ, Regs.setC]
  obtain ⟨t, ht, hbus, htregs, hcycles, htg⟩ :=
    exec_of_storeBack (w := w) he (by simp [SameBus]) hregs (by simp)
  refine ⟨t, ht, hbus, htregs, hcycles, ?_⟩
  have hflags : t.regs.flags = ((((write8 s s.regs.hl w).setZ z).setC c).setHN h n).regs.flags := by rw [htg, hregs]
  rw [hflags]
  exact ⟨by simp, by simp, hnWritten_setHN (by simp) (by simp) (by simp)⟩

/-- A byte stored at HL, and F left. -/
theorem exec_of_storeBack_only {i : Instr} {s : State} {w : Byte}
    (he : exec i s = finish (write8 s s.regs.hl w) i.opKey) :
    ∃ t, exec i s = .next t ∧ SameBus (write8 s s.regs.hl w) t
      ∧ t.regs = { s.regs with flags := t.regs.flags, pc := s.regs.pc + BitVec.ofNat 16 i.opKey.length }
      ∧ t.cycles = s.cycles + cyclesOf s.params i.opKey true ∧ t.regs.flags = s.regs.flags :=
  exec_of_storeBack he ⟨rfl, rfl, rfl, rfl, rfl, rfl, rfl⟩ (write8_regs ..) (write8_cycles ..)

theorem get8_atHL {s : State} {v : Byte} (hv : read8 s s.regs.hl = .ok v) : get8 s .atHL = .ok v := hv

/-- INC (HL), its half carry in numbers (rule R269). -/
theorem exec_of_inc_atHL {i : Instr} {s : State} {v : Byte} (hi : formOf i = .inc .atHL)
    (hv : read8 s s.regs.hl = .ok v) :
    exec i s = finish ((((write8 s s.regs.hl (v + 1)).setZ (decide (v + 1 = 0))).setC s.regs.flags.c).setHN
      (decide (v.toNat % 16 = 15)) false) i.opKey := by
  have hbits : ∀ v : Byte, v &&& 0x0F = 0x0F ↔ v.toNat % 16 = 15 := by decide
  rw [exec_of_form hi, State.setC_of_eq (by simp)]
  simp only [runForm, incSel, incFlags, get8_atHL hv, attempt_ok, set8, hbits]

/-- DEC (HL), its half borrow in numbers (rule R271). -/
theorem exec_of_dec_atHL {i : Instr} {s : State} {v : Byte} (hi : formOf i = .dec .atHL)
    (hv : read8 s s.regs.hl = .ok v) :
    exec i s = finish ((((write8 s s.regs.hl (v - 1)).setZ (decide (v - 1 = 0))).setC s.regs.flags.c).setHN
      (decide (v.toNat % 16 = 0)) true) i.opKey := by
  have hbits : ∀ v : Byte, v &&& 0x0F = 0x00 ↔ v.toNat % 16 = 0 := by decide
  rw [exec_of_form hi, State.setC_of_eq (by simp)]
  simp only [runForm, decSel, decFlags, get8_atHL hv, attempt_ok, set8, hbits]

/-- The CB rotates, shifts and SWAP on (HL) (rules R305 to R312). -/
theorem exec_of_rot_atHL {i : Instr} {op : CbRot} {s : State} {v : Byte} (hi : formOf i = .cb (.rot op .atHL))
    (hv : read8 s s.regs.hl = .ok v) :
    exec i s = finish ((((write8 s s.regs.hl (op.eval v s.regs.flags.c).res).setZ
      (decide ((op.eval v s.regs.flags.c).res = 0))).setC (op.eval v s.regs.flags.c).out).setHN false false) i.opKey := by
  rw [exec_of_form hi, runForm, runCb, get8_atHL hv, attempt_ok]; rfl

/-- RES b,(HL) (rule R314). -/
theorem exec_of_res_atHL {i : Instr} {b : Fin 8} {s : State} {v : Byte} (hi : formOf i = .cb (.res b .atHL))
    (hv : read8 s s.regs.hl = .ok v) : exec i s = finish (write8 s s.regs.hl (v &&& ~~~bitMask b)) i.opKey := by
  rw [exec_of_form hi, runForm, runCb, get8_atHL hv, attempt_ok]; rfl

/-- SET b,(HL) (rule R315). -/
theorem exec_of_set_atHL {i : Instr} {b : Fin 8} {s : State} {v : Byte} (hi : formOf i = .cb (.set b .atHL))
    (hv : read8 s s.regs.hl = .ok v) : exec i s = finish (write8 s s.regs.hl (v ||| bitMask b)) i.opKey := by
  rw [exec_of_form hi, runForm, runCb, get8_atHL hv, attempt_ok]; rfl

end Sys2Proof.Machine

namespace Sys2Proof.Proofs

/-- Settles O22: the `alu` operation's result is the one difference of SUB, SBC and CP; CP alone does not write it. -/
theorem subtractCompletes : Obligations.SubtractCompletes := by
  unfold Obligations.SubtractCompletes
  intro i op v s hop hv
  obtain ⟨t, ht, ha, hflags, hregs, hran⟩ := exec_of_alu hv (Alu.eval_subtract hop ..)
  simp only [ofInt_byte_eq_zero_iff] at hflags
  refine ⟨t, ht, ⟨?_, fun hne => ?_, hflags⟩, hregs, hran⟩
  · rintro rfl
    exact ha
  · rw [ha, if_pos (Alu.writesA_of_ne_cp hne), toNat_ofInt_byte]

/-- Settles O23: the bitwise results and the constant flags are `Alu.eval`'s. -/
theorem logicCompletes : Obligations.LogicCompletes := by
  unfold Obligations.LogicCompletes
  intro i op v s hop hv
  have hwrites : op.writesA = true := Alu.writesA_of_ne_cp (by rintro rfl; simp at hop)
  obtain ⟨t, ht, ha, hflags, hregs, hran⟩ := exec_of_alu hv (Alu.eval_logic hop ..)
  rw [if_pos hwrites] at ha
  rw [← ha] at hflags
  refine ⟨t, ht, ?_, ?_, ?_, hflags, hregs, hran⟩ <;>
    · rintro rfl
      exact ha

/-- Settles O25: the five shapes of `byteUpdate_cases`, each a byte stored at HL and flags written or kept. -/
theorem updateByteCompletes : Obligations.UpdateByteCompletes := by
  unfold Obligations.UpdateByteCompletes
  intro i v w s hv hw
  obtain ⟨hi, rfl⟩ | ⟨hi, rfl⟩ | ⟨op, hi, rfl⟩ | ⟨b, hi, rfl⟩ | ⟨b, hi, rfl⟩ := byteUpdate_cases hw
  · obtain ⟨t, ht, hbus, hregs, hcycles, hflags⟩ := exec_of_storeBack_flags (exec_of_inc_atHL hi hv)
    rw [hi]
    exact ⟨t, ht, hbus, hregs, hcycles, fun _ => ⟨BitVec.toNat_add .., hflags⟩, nofun, nofun, nofun, nofun⟩
  · obtain ⟨t, ht, hbus, hregs, hcycles, hflags⟩ := exec_of_storeBack_flags (exec_of_dec_atHL hi hv)
    have hdiff : (v - 1).toNat = (v.toNat + 255) % 256 := by rw [BitVec.toNat_sub, Nat.add_comm]; rfl
    rw [hi]
    exact ⟨t, ht, hbus, hregs, hcycles, nofun, fun _ => ⟨hdiff, hflags⟩, nofun, nofun, nofun⟩
  · obtain ⟨t, ht, hbus, hregs, hcycles, hflags⟩ := exec_of_storeBack_flags (exec_of_rot_atHL hi hv)
    obtain ⟨hres, hout⟩ := CbRot.eval_eq_rotated op s.regs.flags.c v
    rw [hout] at hflags
    rw [hi]
    refine ⟨t, ht, hbus, hregs, hcycles, nofun, nofun, ?_, nofun, nofun⟩
    rintro _ ⟨⟩
    exact ⟨hres, hflags⟩
  · obtain ⟨t, ht, hbus, hregs, hcycles, hflags⟩ := exec_of_storeBack_only (exec_of_res_atHL hi hv)
    rw [hi]
    refine ⟨t, ht, hbus, hregs, hcycles, nofun, nofun, nofun, ?_, nofun⟩
    rintro _ ⟨⟩
    exact ⟨hflags, res_getLsbD v b⟩
  · obtain ⟨t, ht, hbus, hregs, hcycles, hflags⟩ := exec_of_storeBack_only (exec_of_set_atHL hi hv)
    rw [hi]
    refine ⟨t, ht, hbus, hregs, hcycles, nofun, nofun, nofun, nofun, ?_⟩
    rintro _ ⟨⟩
    exact ⟨hflags, set_getLsbD v b⟩

/-- Settles O28: each is a register file and flags, Z and CPL's C written as they were. -/
theorem complementAndCarryComplete : Obligations.ComplementAndCarryComplete := by
  unfold Obligations.ComplementAndCarryComplete
  refine ⟨⟨rfl, rfl, rfl⟩, fun s => ⟨?_, ?_, ?_⟩⟩
  · obtain ⟨t, ht, hregs, hflags, hran⟩ := exec_of_finish_flags (exec_cpl s) rfl rfl
    have ha : t.regs.a = ~~~s.regs.a := congrArg Regs.a hregs
    rw [← ha] at hregs
    exact ⟨t, ht, hregs, by rw [ha, BitVec.toNat_not], hflags, hran⟩
  · exact exec_of_finish_flags (exec_scf_ccf s).1 rfl rfl
  · exact exec_of_finish_flags (exec_scf_ccf s).2 rfl rfl

/-- Settles O26: `daaAdjust` in numbers, and the refusal. -/
theorem daaAdjustsOrIsRefused : Obligations.DaaAdjustsOrIsRefused := by
  unfold Obligations.DaaAdjustsOrIsRefused
  intro s
  refine ⟨fun hfull => ?_, exec_daa_of_not_full⟩
  obtain ⟨t, ht, hregs, hran, -⟩ := exec_of_finish_regs (exec_daa_of_full hfull rfl)
  obtain ⟨hadd, hsub⟩ := daaAdjust_toNat s.regs.flags.n s.regs.flags.h s.regs.flags.c s.regs.a
  refine ⟨t, ht, ?_, ?_, hran⟩
  · rw [hregs]
    exact ⟨hadd, hsub, rfl, rfl, rfl⟩
  · rw [hregs]; rfl

/-- Settles O27: the carry and half carry of the addition, with DAA's two digit tests, tell when each decimal digit
overflows. -/
theorem addThenDaaIsDecimalSum : Obligations.AddThenDaaIsDecimalSum := by
  unfold Obligations.AddThenDaaIsDecimalSum
  intro x y s hx hy hfull ha
  obtain ⟨t, ht, ⟨hsum, -, htc, hthn⟩, -, ⟨-, -, -, -, -, -, hparams, -⟩, -⟩ :=
    addCompletes (.addAImm (BitVec.ofNat 8 (16 * (y / 10) + y % 10))) .add _ s (.inl rfl) (.inr rfl)
  have hfull' : t.params.flagModel = .full := by rw [hparams, hfull]
  obtain ⟨hth, htn⟩ : _ ∧ t.regs.flags.n = false := by simpa only [HNWritten, hfull] using hthn
  obtain ⟨u, hu, ⟨hadd, -⟩, -⟩ := (daaAdjustsOrIsRefused t).1 hfull'
  obtain ⟨hua, huc⟩ := hadd htn
  have hx8 : s.regs.a.toNat = 16 * (x / 10) + x % 10 := by
    rw [ha, BitVec.toNat_ofNat]; omega
  have hy8 : (BitVec.ofNat 8 (16 * (y / 10) + y % 10)).toNat = 16 * (y / 10) + y % 10 := by
    rw [BitVec.toNat_ofNat]; omega
  simp only [hx8, hy8, reduceCtorEq, decide_false, Bool.false_and, Bool.toNat_false, Nat.add_zero] at hsum htc hth
  have hhigh : (t.regs.flags.c || decide (0x99 < t.regs.a.toNat)) = decide (100 ≤ x + y) := by
    rw [htc, hsum, ← Bool.decide_or, decide_eq_decide]
    exact packed_sum_high hx hy
  have hlow : (t.regs.flags.h || decide (9 < t.regs.a.toNat % 16)) = decide (10 ≤ x % 10 + y % 10) := by
    rw [hth, hsum, ← Bool.decide_or, decide_eq_decide]
    exact packed_sum_low x y
  rw [hhigh] at huc
  rw [hhigh, hlow, hsum] at hua
  exact ⟨t, u, ht, hu, hua.trans (packed_sum_adjusted hx hy), huc⟩

end Sys2Proof.Proofs
end

section
/-! PROOFS. The 16-bit arithmetic (rules R280 to R282): the sum in HL with its carries, and a pair moved by one. -/

open Sys2Proof Sys2Proof.Machine

namespace Sys2Proof.Machine

/-- Writing Z as it was changes nothing. -/
theorem State.setZ_of_eq {s : State} {z : Bool} (h : s.regs.flags.z = z) : s.setZ z = s := by
  subst h; rfl

/-- ADD HL,rr as a write of HL and of all four flags, Z as it was (rule R280). -/
theorem exec_of_addHl {i : Instr} {p : Pair} {s : State} (hi : formOf i = .addHl p) :
    exec i s = finish ((((s.setRegs (s.regs.setPair .hl (add16 s.regs.hl (s.regs.pair p)).res)).setZ
      s.regs.flags.z).setC (add16 s.regs.hl (s.regs.pair p)).carry).setHN
      (add16 s.regs.hl (s.regs.pair p)).half false) i.opKey := by
  rw [exec_of_form hi, State.setZ_of_eq (by simp)]; rfl

/-- An instruction of one byte that sets a pair and nothing else: the pair, and what it leaves. -/
theorem exec_of_finish_setPair {i : Instr} {p : Pair} {w : Word} {s : State}
    (he : exec i s = finish (s.setRegs (s.regs.setPair p w)) i.opKey) (hlen : i.opKey.length = 1) :
    ∃ t, exec i s = .next t ∧ t.regs.pair p = w ∧ (∀ q, q ≠ p → t.regs.pair q = s.regs.pair q)
      ∧ t.regs.a = s.regs.a ∧ t.regs.flags = s.regs.flags ∧ t.regs.pc = s.regs.pc + 1 ∧ RanOnRegisters i s t
      ∧ t.draws = s.draws := by
  obtain ⟨t, ht, hregs, hran, hdraws⟩ := exec_of_finish_regs he
  obtain ⟨hset, hkeep⟩ := Regs.pairs_of_setPair hregs
  rw [hlen] at hregs
  exact ⟨t, ht, hset, hkeep, by rw [hregs, Regs.setPair_a], by rw [hregs, Regs.setPair_flags],
    by rw [hregs, Regs.setPair_pc]; rfl, hran, hdraws⟩

/-- The word one up or one down, in numbers. -/
theorem toNat_succ_pred (w : Word) :
    (w + 1).toNat = (w.toNat + 1) % 65536 ∧ (w - 1).toNat = (w.toNat + 65535) % 65536 := by
  constructor <;> bv_omega

end Sys2Proof.Machine

namespace Sys2Proof.Proofs

/-- Settles O29: `add16` is the sum with its carries, and HL gets its result. -/
theorem addHlCompletes : Obligations.AddHlCompletes := by
  unfold Obligations.AddHlCompletes
  intro i p s hi
  have hlen : i.opKey.length = 1 := length_of_form hi nofun
  obtain ⟨t, ht, hregs, hflags, hran⟩ := exec_of_finish_flags (exec_of_addHl hi) (Regs.setPair_flags ..)
    (Regs.setPair_pc ..)
  have hhl : t.regs.hl = s.regs.hl + s.regs.pair p := (Regs.pairs_of_setPair hregs).1
  rw [hlen] at hregs
  exact ⟨t, ht, by rw [hhl, BitVec.toNat_add], hflags, by rw [hregs]; rfl, hran⟩

/-- Settles O30: INC and DEC differ in the word that the pair gets. -/
theorem incDecPairCompletes : Obligations.IncDecPairCompletes := by
  unfold Obligations.IncDecPairCompletes
  intro i p s h
  obtain ⟨hsucc, hpred⟩ := toNat_succ_pred (s.regs.pair p)
  obtain hi | hi := h
  · obtain ⟨t, ht, hset, hframe⟩ := exec_of_finish_setPair (exec_of_form hi s) (length_of_form hi nofun)
    exact ⟨t, ht, fun _ => by rw [hset, hsucc], fun hd => (by cases hi.symm.trans hd), hframe⟩
  · obtain ⟨t, ht, hset, hframe⟩ := exec_of_finish_setPair (exec_of_form hi s) (length_of_form hi nofun)
    exact ⟨t, ht, fun hu => (by cases hi.symm.trans hu), fun _ => by rw [hset, hpred], hframe⟩

end Sys2Proof.Proofs
end

section
/-! PROOFS. The CB operations (rules R304 to R315): with the operand readable each completes, in a state said once for all
256, and PREFIX CB runs the operation that the sub-opcode's fields name. -/

open Sys2Proof Sys2Proof.Machine

namespace Sys2Proof.Machine

/-! What a CB operation leaves of its operand -/

/-- The operand of a CB operation (rule R107). -/
def CbOp.operand : CbOp → Sel
  | .rot _ r => r
  | .bit _ r => r
  | .res _ r => r
  | .set _ r => r

/-- The state before a CB operation ends, its operand's byte being `v`. -/
def CbOp.effect (c : CbOp) (s : State) (v : Byte) : State :=
  match c with
  | .rot op r =>
    (((set8 s r (op.eval v s.regs.flags.c).res).setZ (decide ((op.eval v s.regs.flags.c).res = 0))).setC
      (op.eval v s.regs.flags.c).out).setHN false false
  | .bit b _ => (s.setZ (!v.getLsbD b.val)).setHN true false
  | .res b r => set8 s r (v &&& ~~~bitMask b)
  | .set b r => set8 s r (v ||| bitMask b)

/-- A CB operation completes where its operand can be read. -/
theorem runCb_of_operand {c : CbOp} {s : State} {v : Byte} (k : OpKey) (hv : get8 s c.operand = .ok v) :
    runCb k c s = finish (c.effect s v) k := by
  cases c <;>
    · rw [CbOp.operand] at hv
      rw [runCb, hv, attempt_ok]
      rfl

/-- `runCb_of_operand` for an instruction of the shape. -/
theorem exec_of_cb {i : Instr} {c : CbOp} {s : State} {v : Byte} (hi : formOf i = .cb c)
    (hv : get8 s c.operand = .ok v) : exec i s = finish (c.effect s v) i.opKey :=
  (exec_of_form hi s).trans (runCb_of_operand i.opKey hv)

@[simp] theorem set8_pc (s : State) (r : Sel) (v : Byte) : (set8 s r v).regs.pc = s.regs.pc := by
  cases r <;> simp [set8]

@[simp] theorem set8_fatal (s : State) (r : Sel) (v : Byte) : (set8 s r v).fatal = s.fatal := by
  cases r <;> simp [set8]

@[simp] theorem set8_cycles (s : State) (r : Sel) (v : Byte) : (set8 s r v).cycles = s.cycles := by
  cases r <;> simp [set8]

@[simp] theorem set8_params (s : State) (r : Sel) (v : Byte) : (set8 s r v).params = s.params := by
  cases r <;> simp [set8]

/-- `HN` leaves PC. -/
@[simp] theorem setHN_pc (u : State) (h n : Bool) : (u.setHN h n).regs.pc = u.regs.pc := by
  obtain ⟨f, hf⟩ := setHN_regs u h n; rw [hf]

/-- The instruction's end finds PC, the mark, the cycles and the costs as they were. -/
theorem CbOp.effect_keeps (c : CbOp) (s : State) (v : Byte) :
    (c.effect s v).regs.pc = s.regs.pc ∧ (c.effect s v).fatal = s.fatal ∧ (c.effect s v).cycles = s.cycles
      ∧ (c.effect s v).params = s.params := by
  cases c <;> simp [CbOp.effect, Regs.setZ, Regs.setC]

/-! PREFIX CB -/

/-- The operand of a sub-opcode is its field z (rules R101, R107). -/
theorem cbFields_operand (sub : Byte) : (cbFields sub).operand = selOf (sub.toNat % 8) := by
  unfold cbFields
  split <;> rfl

/-- A selector's byte can be read, memory at HL where the bus reads there (rule R102). -/
theorem get8_selOf_ok {s : State} {z : Nat} (h : z = 6 → ∃ v, read8 s s.regs.hl = .ok v) :
    ∃ v, get8 s (selOf z) = .ok v := by
  unfold selOf
  split
  case h_7 => exact h rfl
  all_goals exact ⟨_, rfl⟩

/-- PREFIX CB with a supported sub-opcode and the row of that sub-opcode are one operation (rule R304, log 13). -/
theorem exec_prefixCb_of_supported {s : State} {sub : Byte} (h : s.params.supportedCb.mem sub = true) :
    exec (.prefixCb sub) s = exec (cbInstr sub) s :=
  calc exec (.prefixCb sub) s = runCb (.cb sub) (cbFields sub) s := if_pos h
    _ = runCb (cbInstr sub).opKey (cbFields sub) s := by rw [cbInstr_opKey]
    _ = exec (cbInstr sub) s := (exec_of_form (formOf_cbInstr sub) s).symm

/-! The operations on a register -/

/-- A CB rotate, shift or SWAP of a register, in the arithmetic of the whole byte (rules R305 to R312). -/
theorem exec_of_rot_reg {i : Instr} {op : CbRot} {r : Sel} {v : Byte} {s : State} (hi : formOf i = .cb (.rot op r))
    (hv : s.regs.getSel r = some v) :
    exec i s = finish ((((s.setRegs (s.regs.setSel r (rotated op v s.regs.flags.c).1)).setZ
      (decide ((rotated op v s.regs.flags.c).1 = 0))).setC (rotated op v s.regs.flags.c).2).setHN false false) i.opKey := by
  obtain ⟨hres, hout⟩ := CbRot.eval_eq_rotated op s.regs.flags.c v
  rw [exec_of_cb hi (get8_of_getSel hv), CbOp.effect, hres, hout, set8_reg s _ (getSel_ne_atHL hv)]

/-- RES or SET of a register: a write of that register alone (rules R314, R315). -/
theorem exec_of_cb_set8 {i : Instr} {c : CbOp} {v w : Byte} {s : State} (hi : formOf i = .cb c)
    (hv : s.regs.getSel c.operand = some v) (hw : c.effect s v = set8 s c.operand w) :
    ∃ t, exec i s = .next t ∧ t.regs = { s.regs.setSel c.operand w with pc := s.regs.pc + 2 }
      ∧ RanOnRegisters i s t := by
  have hrun := exec_of_cb hi (get8_of_getSel hv)
  rw [hw, set8_reg s w (getSel_ne_atHL hv)] at hrun
  obtain ⟨t, ht, hregs, hran, -⟩ := exec_of_finish_regs hrun
  rw [length_of_form hi nofun, Regs.setSel_pc] at hregs
  exact ⟨t, ht, hregs, hran⟩

/-- BIT as a write of the flags alone, C as it was (rule R313). -/
theorem exec_of_bit {i : Instr} {b : Fin 8} {r : Sel} {v : Byte} {s : State} (hi : formOf i = .cb (.bit b r))
    (hv : get8 s r = .ok v) :
    exec i s = finish ((((s.setRegs s.regs).setZ (!v.getLsbD b.val)).setC s.regs.flags.c).setHN true false) i.opKey :=
  exec_of_cb hi hv

end Sys2Proof.Machine

namespace Sys2Proof.Proofs

/-- Settles O6: both run the operation of the sub-opcode's fields, which completes where its operand can be read. -/
theorem prefixRunsSelectedInstr : Obligations.PrefixRunsSelectedInstr := by
  unfold Obligations.PrefixRunsSelectedInstr
  intro sub s
  refine ⟨exec_prefixCb_of_supported, fun hsup hread => ?_, fun hsup => if_neg (by rw [hsup]; nofun)⟩
  obtain ⟨v, hv⟩ := get8_selOf_ok hread
  rw [← cbFields_operand] at hv
  have hrun := exec_of_cb (formOf_cbInstr sub) hv
  obtain ⟨hpc, hfatal, hcycles, hparams⟩ := (cbFields sub).effect_keeps s v
  rw [cbInstr_opKey] at hrun
  refine ⟨_, (exec_prefixCb_of_supported hsup).trans hrun, hrun, ?_, hfatal, ?_⟩
  · rw [advance_eq, hpc]; rfl
  · rw [advance_eq, hcycles, hparams]

/-- Settles O32: a rotate writes the register and the flags, RES and SET the register alone. -/
theorem cbRegisterCompletes : Obligations.CbRegisterCompletes := by
  unfold Obligations.CbRegisterCompletes
  intro i r v s hv
  refine ⟨fun op hi => ?_, fun b hi => ?_, fun b hi => ?_⟩
  · have hlen : i.opKey.length = 2 := length_of_form hi nofun
    obtain ⟨t, ht, hregs, hflags, hran⟩ :=
      exec_of_finish_flags (exec_of_rot_reg hi hv) (Regs.setSel_flags ..) (Regs.setSel_pc ..)
    rw [hlen] at hregs
    exact ⟨t, ht, ⟨hregs, hflags⟩, hran⟩
  · obtain ⟨t, ht, hregs, hran⟩ := exec_of_cb_set8 hi hv rfl
    exact ⟨t, _, ht, hregs, res_getLsbD v b, hran⟩
  · obtain ⟨t, ht, hregs, hran⟩ := exec_of_cb_set8 hi hv rfl
    exact ⟨t, _, ht, hregs, set_getLsbD v b, hran⟩

/-- Settles O33: BIT is a write of the flags in a register file that stays. -/
theorem bitTestCompletes : Obligations.BitTestCompletes := by
  unfold Obligations.BitTestCompletes
  intro i b r v s hi hv
  have hlen : i.opKey.length = 2 := length_of_form hi nofun
  obtain ⟨t, ht, hregs, hflags, hran⟩ := exec_of_finish_flags (exec_of_bit hi hv) rfl rfl
  rw [hlen] at hregs
  exact ⟨t, ht, hflags, hregs, hran⟩

end Sys2Proof.Proofs
end

section
/-! PROOFS. The jumps that are taken (rules R341 to R345): each ends in `jump` with its target, JR's in integer
arithmetic. -/

open Sys2Proof Sys2Proof.Machine

namespace Sys2Proof.Machine

/-- The target of JR is known by its number: PC + 2 plus the signed displacement, mod 2^16 (rule R344). -/
theorem relTarget_eq_of_toNat {s : State} {e : Byte} {w : Word}
    (h : (w.toNat : Int) = ((s.regs.pc.toNat : Int) + 2 + e.toInt) % 65536) : relTarget s e = w := by
  have hpc : (s.regs.pc + 2).toNat = (s.regs.pc.toNat + 2) % 65536 := BitVec.toNat_add ..
  have htarget : relTarget s e = BitVec.ofInt 16 (((s.regs.pc + 2).toNat : Int) + e.toInt) := add_sext16 ..
  have hnum : ((relTarget s e).toNat : Int) = (((s.regs.pc + 2).toNat : Int) + e.toInt) % 65536 := by
    rw [htarget, BitVec.toNat_ofInt]
    exact Int.toNat_of_nonneg (Int.emod_nonneg _ (by decide))
  apply BitVec.eq_of_toNat_eq
  omega

/-- A taken jump, conditional or not, ends with PC at its target (rules R341 to R345). -/
theorem exec_of_jumpsTo {i : Instr} {w : Word} {s : State} (h : JumpsTo s (formOf i) w) :
    exec i s = jump s i.opKey w := by
  obtain hi | ⟨cc, hi, hcc⟩ | ⟨hi, rfl⟩ | ⟨e, hi | ⟨cc, hi, hcc⟩, hw⟩ := h <;> rw [exec_of_form hi]
  · rfl
  · exact if_pos hcc
  · rfl
  · rw [← relTarget_eq_of_toNat hw]; rfl
  · rw [← relTarget_eq_of_toNat hw]; exact if_pos hcc

end Sys2Proof.Machine

namespace Sys2Proof.Proofs

/-- Settles O34: the jump that ends each form writes PC and the cycles alone. -/
theorem jumpCompletes : Obligations.JumpCompletes := by
  unfold Obligations.JumpCompletes
  intro i w s h
  exact ⟨_, exec_of_jumpsTo h, rfl, ⟨sameOutside_of rfl rfl rfl rfl rfl rfl rfl, rfl⟩, rfl⟩

end Sys2Proof.Proofs
end

section
/-! PROOFS. HALT, STOP, NOP, DI, EI and the illegal bytes (rules R360 to R365), the halted step (rule R415), and the
delay of EI (rule R417). -/

open Sys2Proof Sys2Proof.Machine

namespace Sys2Proof.Machine

/-! HALT -/

/-- Nothing wakes the CPU exactly when nothing waits (rule R415). -/
theorem wake_eq_false_iff (s : State) : wake s = false ↔ ∀ k, ¬Waiting s k := by
  rw [← Bool.not_eq_true, wake_iff, not_exists]

/-- HALT with IME set or nothing waiting (rule R361). -/
theorem exec_halt_of_enabled {s : State} (h : s.irq.ime = true ∨ ∀ k, ¬Waiting s k) :
    exec .halt s = finish (s.setHalted true) Instr.halt.opKey := by
  have hno : ¬(wake s && !s.irq.ime) = true := by
    obtain hime | hnone := h
    · simp [hime]
    · simp [(wake_eq_false_iff s).2 hnone]
  exact if_neg hno

/-- HALT with IME clear while a request waits (rule R361). -/
theorem exec_halt_of_haltBug {s : State} {k : Source} (hime : s.irq.ime = false) (hk : Waiting s k) :
    exec .halt s = .next (s.raise (.unimplemented .haltBug)) := by
  have hbug : (wake s && !s.irq.ime) = true := by simp [(wake_iff s).2 ⟨k, hk⟩, hime]
  exact if_pos hbug

/-! The interrupt part of a step -/

/-- Without `ime_prev` or a waiting request the interrupt part only takes IME into `ime_prev` (rules R110, R412). -/
theorem interruptPhase_of_none {s : State} (h : s.irq.imePrev = false ∨ ∀ k, ¬Waiting s k) :
    interruptPhase s = { s with events := [], irq := { s.irq with imePrev := s.irq.ime } } :=
  (Proofs.interruptPhaseDispatchesLowest s).2 h

/-- Where nothing is delivered, the interrupt part does not change whether the CPU idles (rule R415). -/
theorem idles_interruptPhase_of_none {s : State} (h : s.irq.imePrev = false ∨ ∀ k, ¬Waiting s k) :
    idles (interruptPhase s) = idles s := by
  rw [interruptPhase_of_none h]
  rfl

/-- With `ime_prev` set the lowest waiting source is taken: PC at its vector, IME clear (rules R413, R414). -/
theorem interruptPhase_of_lowest {s : State} {k : Source} (hprev : s.irq.imePrev = true) (hk : Waiting s k)
    (hmin : ∀ j, j.index < k.index → ¬Waiting s j) :
    (interruptPhase s).regs.pc = k.vector ∧ (interruptPhase s).irq.ime = false := by
  obtain ⟨-, p, -, hphase⟩ := (Proofs.interruptPhaseDispatchesLowest s).1 k hprev hk hmin
  rw [hphase]
  exact ⟨rfl, rfl⟩

/-- A step that idles adds the idle cost (rule R415). -/
theorem step_of_idles {s : State} (h : s.fatal = none) (hi : idles (interruptPhase s) = true) :
    step s = .next (idle (interruptPhase s)) := by
  simp only [step, h, hi, if_true]

/-- After its interrupt part a step leaves `ime_prev` (rules R34, R110). -/
theorem imePrev_of_step_next {s t : State} (h : step s = .next t) : t.irq.imePrev = (interruptPhase s).irq.imePrev := by
  obtain hs | ⟨e, hs⟩ | ⟨i, hs⟩ := step_cases (fatal_of_step_next h) <;> rw [hs] at h
  · obtain rfl := next_inj h
    rfl
  · obtain rfl := next_inj h
    rfl
  · obtain ⟨t', ht', ⟨e, rfl⟩ | ⟨u, hu⟩⟩ := exec_outcome i (readyState s) <;>
      obtain rfl := next_inj (h.symm.trans ht')
    · rfl
    · exact hu.imePrev

end Sys2Proof.Machine

namespace Sys2Proof.Proofs

/-- Settles O47: the interrupt part only takes the snapshot, so the same requests decide whether the CPU wakes. -/
theorem haltedStepIdlesOrWakes : Obligations.HaltedStepIdlesOrWakes := by
  unfold Obligations.HaltedStepIdlesOrWakes
  intro s hfatal hhalted
  refine ⟨fun hnone => ?_, fun k hk hprev => ?_⟩
  · have hphase := interruptPhase_of_none (.inr hnone)
    have hidle : idles (interruptPhase s) = true := by
      rw [idles_interruptPhase_of_none (.inr hnone), idles, hhalted, (wake_eq_false_iff s).2 hnone]
      rfl
    rw [step_of_idles hfatal hidle, hphase]
    rfl
  · have hphase := interruptPhase_of_none (.inl hprev)
    have hruns : idles (interruptPhase s) = false := by
      rw [idles_interruptPhase_of_none (.inl hprev), idles, (wake_iff s).2 ⟨k, hk⟩, Bool.not_true, Bool.and_false]
    rw [step_of_runs hfatal hruns, readyState, hphase]
    rfl

/-- Settles O48: EI's step ends with `ime_prev` clear, and the step after it with `ime_prev` set, since a step leaves
`ime_prev` after its interrupt part. -/
theorem eiDelaysDeliveryByOneStep : Obligations.EiDelaysDeliveryByOneStep := by
  unfold Obligations.EiDelaysDeliveryByOneStep
  intro s t hfatal hhalted hime hprev hfetch hstep
  have hphase := interruptPhase_of_none (s := s) (.inl hprev)
  have hruns : idles (interruptPhase s) = false := by
    rw [idles_interruptPhase_of_none (.inl hprev), idles, hhalted, Bool.false_and]
  have htIme : t.irq.ime = true := by
    rw [step_of_runs hfatal hruns, runInstr, hfetch] at hstep
    obtain rfl := next_inj hstep
    rfl
  have htPrev : t.irq.imePrev = false := by
    rw [imePrev_of_step_next hstep, hphase]
    exact hime
  have htPhase : interruptPhase t = { t with events := [], irq := { t.irq with imePrev := true } } := by
    rw [interruptPhase_of_none (.inl htPrev), htIme]
  refine ⟨htIme, htPrev, htPhase, fun u k hu hk hmin => ?_⟩
  have huPrev : u.irq.imePrev = true := by rw [imePrev_of_step_next hu, htPhase]
  exact interruptPhase_of_lowest huPrev hk hmin

/-- Settles O38: each is `finish` of its one write, at the length 1. -/
theorem nopDiEiComplete : Obligations.NopDiEiComplete := by
  unfold Obligations.NopDiEiComplete
  exact fun s => ⟨rfl, rfl, rfl⟩

/-- Settles O39: HALT by its two cases; STOP and the illegal bytes raise their errors. -/
theorem haltStopAndIllegalComplete : Obligations.HaltStopAndIllegalComplete := by
  unfold Obligations.HaltStopAndIllegalComplete
  exact fun s op => ⟨exec_halt_of_enabled, fun k => exec_halt_of_haltBug, rfl, rfl⟩

end Sys2Proof.Proofs
end

section
/-! PROOFS. What an instruction that ends in a fatal error leaves (rules R402, R405), and the registers behind the bus: IF
and IE (rules R410, R411) and the display's (rules R440 to R447). -/

open Sys2Proof Sys2Proof.Machine

namespace Sys2Proof.Machine

/-! The interrupt registers -/

theorem route_irqFlags {m : Stores} {a : Word} (hc : m.cartSize < a.toNat) (ha : a.toNat = 0xFF0F) :
    route m a = .irqFlags := by
  simp (disch := omega) only [route, if_pos, if_neg]

theorem route_irqEnable {m : Stores} {a : Word} (hc : m.cartSize < a.toNat) (ha : a.toNat = 0xFFFF) :
    route m a = .irqEnable := by
  simp (disch := omega) only [route, if_pos, if_neg]

theorem read8_of_irqFlags {s : State} {a : Word} (h : route s.mem a = .irqFlags) : read8 s a = .ok (ifRead s) := by
  rw [read8, h]

theorem read8_of_irqEnable {s : State} {a : Word} (h : route s.mem a = .irqEnable) : read8 s a = .ok s.irq.ie := by
  rw [read8, h]

theorem write8_of_irqFlags {s : State} {a : Word} {v : Byte} (h : route s.mem a = .irqFlags) :
    write8 s a v = { s with irq := { s.irq with pending := s.irq.pending.request v } } := by
  rw [write8, h]; rfl

theorem write8_of_irqEnable {s : State} {a : Word} {v : Byte} (h : route s.mem a = .irqEnable) :
    write8 s a v = { s with irq := { s.irq with ie := v } } := by
  rw [write8, h]; rfl

/-- A write of IF requests each source whose bit is set, once (rule R410). -/
theorem Pending.count_request (p : Pending) (v : Byte) (k : Source) :
    (p.request v).count k = p.count k + (v.getLsbD k.index).toNat := by
  cases k <;> rfl

/-! The display's registers -/

/-- Each entry of a background table is two bits of the register (rule R444). -/
theorem decodeBgp_index (v : Byte) :
    (decodeBgp v).entry0.index = v.toNat % 4 ∧ (decodeBgp v).entry1.index = v.toNat / 4 % 4
      ∧ (decodeBgp v).entry2.index = v.toNat / 16 % 4 ∧ (decodeBgp v).entry3.index = v.toNat / 64 % 4 := by
  have h0 : v.toNat / 4 ^ 0 % 4 = v.toNat % 4 := by rw [Nat.pow_zero, Nat.div_one]
  exact ⟨(paletteShade_index v 0).trans h0, paletteShade_index v 1, paletteShade_index v 2, paletteShade_index v 3⟩

/-- A sprite table's entries are those of a background table, without entry 0 (rule R445). -/
theorem decodeObp_index (v : Byte) :
    (decodeObp v).entry1.index = v.toNat / 4 % 4 ∧ (decodeObp v).entry2.index = v.toNat / 16 % 4
      ∧ (decodeObp v).entry3.index = v.toNat / 64 % 4 :=
  (decodeBgp_index v).2

/-- In the extended variant sub-addresses 8 and 9 are the sprite palettes (rule R445). -/
theorem lcd_of_extended {s : State} (v : Byte) (h : s.params.extendedVariant = true) :
    lcdRead s 8 = .ok s.lcd.obp0 ∧ lcdRead s 9 = .ok s.lcd.obp1
      ∧ lcdWrite s 8 v = { s with lcd := { s.lcd with obp0 := v, obp0Table := decodeObp v } }
      ∧ lcdWrite s 9 v = { s with lcd := { s.lcd with obp1 := v, obp1Table := decodeObp v } } :=
  ⟨if_pos h, if_pos h, if_pos h, if_pos h⟩

/-- The sub-addresses without a register: a read is fatal, a write is logged (rules R445 to R447). -/
theorem lcd_of_unimplemented {s : State} {k : Nat} (v : Byte)
    (h : k ∈ [1, 5, 6, 10, 11, 12, 13, 14, 15] ∨ (k ∈ [8, 9] ∧ s.params.extendedVariant = false)) :
    k < 16 ∧ lcdRead s k = .error (.unimplemented (.lcdRead k))
      ∧ lcdWrite s k v = s.log (.unimplemented (.lcdWrite k)) := by
  simp only [List.mem_cons, List.not_mem_nil, or_false] at h
  obtain (rfl | rfl | rfl | rfl | rfl | rfl | rfl | rfl | rfl) | ⟨rfl | rfl, hbase⟩ := h
  case inr.inl | inr.inr =>
    have hno : ¬s.params.extendedVariant = true := by rw [hbase]; nofun
    exact ⟨by decide, if_neg hno, if_neg hno⟩
  all_goals exact ⟨by decide, rfl, rfl⟩

end Sys2Proof.Machine

namespace Sys2Proof.Proofs

/-- Settles O41: the two outcomes of `exec_outcome`; one that completes leaves the mark. -/
theorem fatalErrorChangesNothing : Obligations.FatalErrorChangesNothing := by
  unfold Obligations.FatalErrorChangesNothing
  intro i s
  obtain ⟨t, ht, hraise | ⟨u, hu⟩⟩ := exec_outcome i s
  · exact ⟨t, ht, .inr hraise⟩
  · exact ⟨t, ht, .inl hu.fatal⟩

/-- Settles O49: IF and IE by their routes. -/
theorem interruptRegisters : Obligations.InterruptRegisters := by
  unfold Obligations.InterruptRegisters
  intro s v
  refine ⟨fun hc => ?_, fun hc => ?_⟩
  · have hr : route s.mem 0xFF0F = .irqFlags := route_irqFlags hc rfl
    rw [write8_of_irqFlags hr, read8_of_irqFlags hr]
    exact ⟨rfl, Pending.count_request _ v, ifRead s, rfl, ifRead_unused s, ifRead_bit s⟩
  · have hr : route s.mem 0xFFFF = .irqEnable := route_irqEnable hc rfl
    exact ⟨write8_of_irqEnable hr, read8_of_irqEnable hr⟩

/-- Settles O51: behind the sixteen addresses are `lcdRead` and `lcdWrite`, taken sub-address by sub-address. -/
theorem lcdRegisters : Obligations.LcdRegisters := by
  unfold Obligations.LcdRegisters
  intro s v hc
  have hread {k : Nat} (hk : k < 16) : read8 s (0xFF40 + BitVec.ofNat 16 k) = lcdRead s k := read8_lcd hc hk
  have hwrite {k : Nat} (hk : k < 16) : write8 s (0xFF40 + BitVec.ofNat 16 k) v = lcdWrite s k v := write8_lcd hc hk v
  obtain ⟨h0, h1, h2, h3⟩ := decodeBgp_index v
  refine ⟨hread (k := 0) (by decide), hread (k := 2) (by decide), hread (k := 3) (by decide), hread (k := 4) (by decide),
    hread (k := 7) (by decide), hwrite (k := 0) (by decide), hwrite (k := 2) (by decide), hwrite (k := 3) (by decide),
    hwrite (k := 4) (by decide), ⟨decodeBgp v, h0, h1, h2, h3, hwrite (k := 7) (by decide)⟩, fun hext => ?_,
    fun k hk => ?_⟩
  · obtain ⟨hr8, hr9, hw8, hw9⟩ := lcd_of_extended v hext
    obtain ⟨h1, h2, h3⟩ := decodeObp_index v
    exact ⟨(hread (k := 8) (by decide)).trans hr8, (hread (k := 9) (by decide)).trans hr9, decodeObp v, h1, h2, h3,
      (hwrite (k := 8) (by decide)).trans hw8, (hwrite (k := 9) (by decide)).trans hw9⟩
  · obtain ⟨hlt, hr, hw⟩ := lcd_of_unimplemented v hk
    exact ⟨(hread hlt).trans hr, (hwrite hlt).trans hw⟩

end Sys2Proof.Proofs
end

section
/-! PROOFS. The render (rules R450 to R455, R512): the shade it leaves at every pixel, what its picture depends on, and
which writes change the picture. -/

open Sys2Proof Sys2Proof.Machine

namespace Sys2Proof.Machine

/-! What a render leaves at a pixel -/

/-- A render with LCDC bit 4 set writes the framebuffer alone (rules R452, R453). -/
theorem render_of_flag {s : State} (h : s.lcd.lcdc.getLsbD 4 = true) :
    render s = { s with lcd := { s.lcd with fb := renderedFb s.mem.vram s.lcd s.params.renderMargin } } :=
  if_pos h

theorem render_fb {s : State} (h : s.lcd.lcdc.getLsbD 4 = true) :
    (render s).lcd.fb = renderedFb s.mem.vram s.lcd s.params.renderMargin := by
  rw [render_of_flag h]

/-- A fold over the tiles drawn over a place is the renderer's two loops, acting there alone (rules R453, R454). -/
theorem foldl_drawnOver {β : Type} (f : β → Nat × Nat → β) (margin i j : Nat) (b : β) :
    (drawnOver margin i j).foldl f b =
      (List.range (18 + margin)).foldl (fun acc i' => (List.range (20 + margin)).foldl
        (fun acc j' => if i' % 18 = i ∧ j' % 20 = j then f acc (i', j') else acc) acc) b := by
  have hrow (acc : β) (i' : Nat) :
      (List.range (20 + margin)).foldl (fun acc j' => if i' % 18 = i ∧ j' % 20 = j then f acc (i', j') else acc) acc =
        if i' % 18 = i then
          (((List.range (20 + margin)).filter fun j' => j' % 20 = j).map fun j' => (i', j')).foldl f acc
        else acc := by
    by_cases hi : i' % 18 = i
    · simp only [hi, true_and, if_true]
      rw [List.foldl_map, foldl_where]
    · simp only [hi, false_and, if_false, List.foldl_fixed]
  simp only [hrow]
  rw [drawnOver, List.foldl_flatMap, foldl_where]

/-- What drawing tile row `i'` does to the shade of pixel (px, py) of the screen's tile (i, j): what its tiles do, columns
ascending (rule R453). -/
def drawnRowShade (vram : List Host.Cell) (l : Lcd) (margin i j px py : Nat) (before : Shade) (i' : Nat) : Shade :=
  (List.range (20 + margin)).foldl (fun before j' => drawnShade vram l i j px py i' j' before) before

/-- One row of tiles drawn, seen at a pixel. -/
theorem read_paintTiles (vram : List Host.Cell) (l : Lcd) (margin : Nat) {i j px py : Nat} (hi : i < 18) (hj : j < 20)
    (hpx : px < 8) (hpy : py < 8) (i' : Nat) (fb : List (Nat × Shade)) (h : FbWf fb) :
    Memory.read Shade.white (paintTiles vram l margin fb i') (l.cell i j px py) =
      drawnRowShade vram l margin i j px py (Memory.read Shade.white fb (l.cell i j px py)) i' :=
  read_foldl _ (fun before j' => drawnShade vram l i j px py i' j' before) _ (paintTile_wf vram l i')
    (fun fb j' _ hfb => read_paintTile vram l hi hj hpx hpy i' j' fb hfb) fb h

/-- The shade a render leaves at a pixel: the tiles drawn over it, in loop order, each drawing where its index is not 0
(rules R453, R454). -/
theorem read_renderedFb (vram : List Host.Cell) (l : Lcd) (margin : Nat) {i j px py : Nat} (hi : i < 18) (hj : j < 20)
    (hpx : px < 8) (hpy : py < 8) :
    Memory.read Shade.white (renderedFb vram l margin) (l.cell i j px py) =
      (drawnOver margin i j).foldl (fun before t =>
        if indexAt vram l t.1 t.2 px py ≠ 0 then l.bgTable.get (indexAt vram l t.1 t.2 px py) else before) .white := by
  have hloops : Memory.read Shade.white (renderedFb vram l margin) (l.cell i j px py) =
      (List.range (18 + margin)).foldl (drawnRowShade vram l margin i j px py) .white :=
    read_foldl _ _ _ (paintTiles_wf vram l margin)
      (fun fb i' _ hfb => read_paintTiles vram l margin hi hj hpx hpy i' fb hfb) [] rfl
  rw [hloops, foldl_drawnOver]
  simp only [← ite_and]
  rfl

/-! What the picture depends on -/

section Congr

variable {l l' : Lcd} (hlcdc : l'.lcdc = l.lcdc) (hscy : l'.scy = l.scy) (hscx : l'.scx = l.scx)
  (htable : ∀ k, k ≠ 0 → l'.bgTable.get k = l.bgTable.get k)

include hscy hscx htable

/-- Index 0 is transparent, so drawing does not look at the table's entry 0 (rule R453). -/
theorem paintPixel_congr : paintPixel l' = paintPixel l := by
  funext i j py lo hi fb px
  unfold paintPixel Lcd.pixelRow Lcd.pixelColumn
  simp only [hscy, hscx]
  split
  · rfl
  · next hidx => rw [htable _ hidx]

include hlcdc

/-- A picture depends on LCDC, the scroll registers and the table's entries 1 to 3 (rules R451 to R454). -/
theorem renderedFb_congr (vram : List Host.Cell) (margin : Nat) : renderedFb vram l' margin = renderedFb vram l margin := by
  have hrow : paintTileRow vram l' = paintTileRow vram l := by
    funext i j t fb py
    rw [paintTileRow, paintPixel_congr hscy hscx htable, paintTileRow]
  have hmap : l'.mapOffset = l.mapOffset := by unfold Lcd.mapOffset Lcd.flag; rw [hlcdc]
  have htile : paintTile vram l' = paintTile vram l := by
    funext i fb j
    simp only [paintTile, hrow, hmap, hscy, hscx]
  have htiles : paintTiles vram l' margin = paintTiles vram l margin := by
    funext fb i
    rw [paintTiles, htile, paintTiles]
  rw [renderedFb, htiles, renderedFb]

end Congr

/-- A second render changes nothing (rule R454). -/
theorem render_render {s : State} (h : s.lcd.lcdc.getLsbD 4 = true) : render (render s) = render s := by
  have hsame (fb : List (Nat × Shade)) : render { s with lcd := { s.lcd with fb := fb } } = render s := by
    have hpicture := renderedFb_congr (l := s.lcd) (l' := { s.lcd with fb := fb }) rfl rfl rfl (fun _ _ => rfl)
      s.mem.vram s.params.renderMargin
    rw [render_of_flag h, ← hpicture]
    exact render_of_flag h
  exact (congrArg render (render_of_flag h)).trans (hsame _)

/-- The table's other entries do not depend on entry 0. -/
theorem BgTable.get_entry0 (t : BgTable) (x : Shade) {k : Nat} (h : k ≠ 0) : ({ t with entry0 := x }).get k = t.get k := by
  unfold BgTable.get
  split
  · exact absurd rfl h
  · rfl
  · rfl
  · rfl

/-! Which writes change the picture -/

/-- The display's writes but those of SCY, SCX and BGP leave the picture (rules R441 to R447, R450). -/
theorem lcdWrite_fb (s : State) {k : Nat} (v : Byte) (hscy : k ≠ 2) (hscx : k ≠ 3) (hbgp : k ≠ 7) :
    (lcdWrite s k v).lcd.fb = s.lcd.fb := by
  unfold lcdWrite
  split
  case h_2 | h_3 | h_5 => contradiction
  case h_6 | h_7 => split <;> rfl
  all_goals rfl

theorem write8_of_lcd {s : State} {a : Word} {v : Byte} (h : route s.mem a = .lcd) :
    write8 s a v = lcdWrite s (a.toNat - 0xFF40) v := by
  rw [write8, h]

/-- A write that does not go to the display leaves it (rule R60). -/
theorem write8_lcd_of_route_ne {s : State} {a : Word} (v : Byte) (h : route s.mem a ≠ .lcd) :
    (write8 s a v).lcd = s.lcd := by
  unfold write8
  cases hr : route s.mem a with
  | lcd => exact absurd hr h
  | bootLatch => dsimp only; split <;> rfl
  | _ => rfl

end Sys2Proof.Machine

namespace Sys2Proof.Proofs

/-- Settles O52: the fold of `read_renderedFb` keeps the last tile whose index is not 0. -/
theorem renderDrawsTilePixels : Obligations.RenderDrawsTilePixels := by
  unfold Obligations.RenderDrawsTilePixels
  intro s i j px py h hi hj hpx hpy
  have hpixel : (render s).lcd.pixel (s.lcd.pixelRow i py) (s.lcd.pixelColumn j px) =
      Memory.read Shade.white (renderedFb s.mem.vram s.lcd s.params.renderMargin) (s.lcd.cell i j px py) := by
    rw [render_of_flag h]; rfl
  refine hpixel.trans ?_
  rw [read_renderedFb _ _ _ hi hj hpx hpy]
  simp only [← tileIndex_eq_indexAt]
  rw [← foldl_last, List.foldl_map]
  simp only [decide_eq_true_eq]

/-- Settles O53: the picture of `renderedFb` depends neither on the one before nor on entry 0, and only the LCD route
leads to a render. -/
theorem renderProperties : Obligations.RenderProperties := by
  unfold Obligations.RenderProperties
  refine ⟨fun s h => if_neg (by rw [Lcd.flag, h]; nofun), fun s x fb h => ⟨?_, render_render h, ?_⟩,
    fun s a v hfb => ?_⟩
  · rw [render_of_flag h]
  · rw [render_fb h, render_fb]
    · apply renderedFb_congr
      case htable => exact fun _ => BgTable.get_entry0 _ x
      all_goals rfl
    · exact h
  · by_contra! hne
    obtain ⟨hscy, hscx, hbgp⟩ := hne
    by_cases hr : route s.mem a = .lcd
    · obtain ⟨-, -, -, -, hrange, -⟩ := route_range s.mem a
      have := hrange hr
      refine hfb ?_
      rw [write8_of_lcd hr]
      exact lcdWrite_fb s v (by bv_omega) (by bv_omega) (by bv_omega)
    · exact hfb (congrArg Lcd.fb (write8_lcd_of_route_ne v hr))

end Sys2Proof.Proofs
end

section
/-! PROOFS. The host's display calls and construction (rules R460, R461, R500): LY after any number of display steps, and
the images read back from their stores. -/

open Sys2Proof Sys2Proof.Machine

namespace Sys2Proof.Machine

/-! The display's calls -/

/-- LY after `n` display steps: `n` up as far as the maximum, and a value above it held (rule R461). -/
def lyAfter (max ly : Byte) (n : Nat) : Byte :=
  if ly.toNat ≤ max.toNat then BitVec.ofNat 8 (min (ly.toNat + n) max.toNat) else ly

theorem lyAfter_zero (max ly : Byte) : lyAfter max ly 0 = ly := by
  unfold lyAfter
  split
  · next hle => rw [Nat.add_zero, Nat.min_eq_left hle, BitVec.ofNat_toNat, BitVec.setWidth_eq]
  · rfl

/-- One display step more is the test and the increment of rule R461. -/
theorem lyAfter_succ (max ly : Byte) (n : Nat) :
    lyAfter max ly (n + 1) =
      if (lyAfter max ly n).toNat < max.toNat then lyAfter max ly n + 1 else lyAfter max ly n := by
  by_cases hle : ly.toNat ≤ max.toNat
  · have hly (k : Nat) : lyAfter max ly k = BitVec.ofNat 8 (min (ly.toNat + k) max.toNat) := if_pos hle
    have hnat : (lyAfter max ly n).toNat = min (ly.toNat + n) max.toNat := by
      rw [hly, BitVec.toNat_ofNat, Nat.mod_eq_of_lt (by omega)]
    split
    · have hnext : min (ly.toNat + (n + 1)) max.toNat = min (ly.toNat + n) max.toNat + 1 := by omega
      rw [hly, hly, hnext, BitVec.ofNat_add]; rfl
    · have hheld : min (ly.toNat + (n + 1)) max.toNat = min (ly.toNat + n) max.toNat := by omega
      rw [hly, hly, hheld]
  · have hly (k : Nat) : lyAfter max ly k = ly := if_neg hle
    rw [hly, hly, if_neg (by omega)]

/-- A display step as a write of LY (rule R461). -/
theorem displayStep_eq (s : State) :
    displayStep s = { s with
      lcd := { s.lcd with ly := if s.lcd.ly.toNat < s.params.lyMax.toNat then s.lcd.ly + 1 else s.lcd.ly } } := by
  unfold displayStep
  split <;> rfl

/-- Any number of display steps write LY alone (rule R461). -/
theorem iterate_displayStep (s : State) (n : Nat) :
    displayStep^[n] s = { s with lcd := { s.lcd with ly := lyAfter s.params.lyMax s.lcd.ly n } } := by
  induction n with
  | zero => rw [lyAfter_zero]; rfl
  | succ n ih => rw [Function.iterate_succ_apply', ih, displayStep_eq, lyAfter_succ]

/-! Construction -/

/-- The four pairs of the register file at reset (rule R500). -/
theorem reset_pairs :
    State.reset.regs.af = 0 ∧ State.reset.regs.bc = 0 ∧ State.reset.regs.de = 0 ∧ State.reset.regs.hl = 0 := by
  decide

/-- An image put in a store is read back (rule R500). -/
theorem readByte_ofBytes {bs : List Byte} {n : Nat} {b : Byte} (h : bs[n]? = some b) :
    readByte (Memory.ofBytes bs) n = b := by
  have := Memory.read_ofBytesFrom bs 0 n b h
  rwa [Nat.zero_add] at this

/-- A RAM image cut to its store's size is read back within it (log 4). -/
theorem readByte_ofBytes_take {bs : List Byte} {size n : Nat} {b : Byte} (hn : n < size) (h : bs[n]? = some b) :
    readByte (Memory.ofBytes (bs.take size)) n = b :=
  readByte_ofBytes ((List.getElem?_take_of_lt hn).trans h)

end Sys2Proof.Machine

namespace Sys2Proof.Proofs

/-- Settles O56: `lyAfter` is LY after n display steps. -/
theorem displayCallsMoveOnlyLy : Obligations.DisplayCallsMoveOnlyLy := by
  unfold Obligations.DisplayCallsMoveOnlyLy
  exact fun s n => ⟨rfl, iterate_displayStep s n⟩

/-- Settles O57: the reset state with the images in its stores. -/
theorem constructionState : Obligations.ConstructionState := by
  unfold Obligations.ConstructionState
  intro boot cart ram p
  refine ⟨fun h => if_neg h, fun h => ⟨_, if_pos h, ?_⟩⟩
  obtain ⟨haf, hbc, hde, hhl⟩ := reset_pairs
  refine ⟨haf, hbc, hde, hhl, rfl, rfl, fun k => ?_, rfl, rfl, rfl, rfl, rfl, rfl, rfl, rfl, rfl, rfl,
    fun n b => readByte_ofBytes, fun n b => readByte_ofBytes, fun n b => readByte_ofBytes_take,
    fun n b => readByte_ofBytes_take, fun n b => readByte_ofBytes_take, rfl, rfl, rfl, rfl, rfl, rfl, rfl, fun i => ?_,
    rfl, rfl, fun y x => rfl⟩
  · cases k <;> rfl
  · unfold BgTable.get; split <;> rfl

end Sys2Proof.Proofs
end
